-- ==== Sys2Proof/Word.lean ====
section
/-! DEFINITION. The plainest quantities of the FN-412: link bytes, Session Clock values and raw pixels.
Bit vectors stand only where the manual treats a value as bits or as a wrapping count. -/

namespace Sys2Proof

/-- One byte clocked over a link (section 9.1). -/
abbrev Byte := BitVec 8

/-- A Session Clock value: 32 bits, one count a millisecond, wrapping (R28). -/
abbrev Clock := BitVec 32

/-- A raw pixel value of 14 bits (section 4.1). -/
abbrev Pixel := BitVec 14

/-- The elapsed time from `t` to `now`, taken modulo 2^32 (section 4.1, R28). -/
def elapsed (t now : Clock) : Nat := (now - t).toNat

/-- The clock value `d` milliseconds after `t`, taken modulo 2^32 (R28). -/
def later (t : Clock) (d : Nat) : Clock := t + BitVec.ofNat 32 d

end Sys2Proof
end

