-- ==== Sys2Proof/Syntax.lean ====
section
/-! DEFINITION. The commands the FN-412 takes: one constructor for each row of spec/opcode_table.json.
A link request carries the bytes its master clocked, so that its layout (chapter 10) is read by the model and a
short select period is a request like any other (R154). -/

namespace Sys2Proof

/-- The two links (section 2.1): the P-link of the camera processor and the S-link of the stabilizer controller.
The order gives the code of Read Status (R166, R169). -/
inductive Link where
  | p
  | s
  deriving DecidableEq, Repr

/-- A select period that carries a request (R154): the link, and every byte after the request code. The first of
them is the request tag, the others are the request's fields. -/
structure SelectPeriod where
  link : Link
  bytes : List Byte
  deriving DecidableEq, Repr

/-- The commands of the FN-412, in the order of spec/opcode_table.json: requests on the links, changes of level on
the lines, units on the Sensor Port, and the part's own steps (a timer that expires, work that completes). -/
inductive Instr where
  /-- FULL_RESET (R1): Power-on or assertion of the RESET line returns every block to its full-reset values. -/
  | fullReset
  /-- ARM (R3): P-link request that zeroes the totals, enters ARMING and posts a plane clear. -/
  | arm (p : SelectPeriod)
  /-- START (R5): Request that takes an ARMED session to REFERENCING and clears the reference flag and counters. -/
  | start (p : SelectPeriod)
  /-- PAUSE (R6): Request that takes a running session to PAUSED with cause REQUEST. -/
  | pause (p : SelectPeriod)
  /-- RESUME (R7): Request that takes a PAUSED session back to REFERENCING or INTEGRATING. -/
  | resume (p : SelectPeriod)
  /-- FINISH (R12): P-link request that takes a running or paused session to DRAINING. -/
  | finish (p : SelectPeriod)
  /-- EXTEND (R14): P-link request that takes a FINISHED session back to a running state if the sub limit allows. -/
  | extend (p : SelectPeriod)
  /-- CLOSE_SESSION (R17): P-link request that discards the session, frees the ring, drops engine work and returns to IDLE. -/
  | closeSession (p : SelectPeriod)
  /-- WRITE_PLAN (R20): P-link request that writes a clamped plan record into a plan slot. -/
  | writePlan (p : SelectPeriod)
  /-- READ_PLAN (R21): Request that returns the plan record of a slot and whether it is active or pending. -/
  | readPlan (p : SelectPeriod)
  /-- SELECT_PLAN (R22): Request that makes a slot active at once or stages it as the pending plan. -/
  | selectPlan (p : SelectPeriod)
  /-- SET_PART_SETTINGS (R25): P-link request that writes the hold reserve and remote wake settings in IDLE. -/
  | setPartSettings (p : SelectPeriod)
  /-- READ_PART_SETTINGS (R25): Request that returns the two part settings. -/
  | readPartSettings (p : SelectPeriod)
  /-- READ_SEQUENCER (R29): Request that returns the Exposure Sequencer state and line levels. -/
  | readSequencer (p : SelectPeriod)
  /-- TRIGGER_SUB (R35): Request that asks for one start in SINGLE mode. -/
  | triggerSub (p : SelectPeriod)
  /-- CONFIGURE_SENSOR (R49): P-link request that sets the geometry, Bayer phase and lane count, and resets the tile map and dark library. -/
  | configureSensor (p : SelectPeriod)
  /-- READ_SENSOR (R50): Request that returns the Sensor Port configuration and reception state. -/
  | readSensor (p : SelectPeriod)
  /-- READ_SUB_OUTCOME (R66): Request that returns the whole record of the descriptor carrying a sub number. -/
  | readSubOutcome (p : SelectPeriod)
  /-- READ_RING (R67): Request that returns the last opened and retired sub numbers and a summary of each descriptor. -/
  | readRing (p : SelectPeriod)
  /-- REPORT_POSE (R72): S-link request that records a reported pose for a light descriptor that is not yet measured. -/
  | reportPose (p : SelectPeriod)
  /-- DROP_STAR (R77): Request that makes a Guide Star Table entry VACANT. -/
  | dropStar (p : SelectPeriod)
  /-- READ_DRIFT (R88): Request that returns the drift record. -/
  | readDrift (p : SelectPeriod)
  /-- READ_GUIDANCE (R88): Request that returns the reference record, pose history, star state counts and re-acquisition flag. -/
  | readGuidance (p : SelectPeriod)
  /-- READ_STAR_TABLE (R88): Request that returns all 24 Guide Star Table entries. -/
  | readStarTable (p : SelectPeriod)
  /-- CLEAR_DARK_SLOT (R97): P-link request that empties a dark slot unless it is in use. -/
  | clearDarkSlot (p : SelectPeriod)
  /-- READ_DARK_LIBRARY (R99): Request that returns the dark slot summaries, use order and markers. -/
  | readDarkLibrary (p : SelectPeriod)
  /-- WRITE_TILES (R104): P-link request that writes a run of clamped Tile Map entries in IDLE or ARMED. -/
  | writeTiles (p : SelectPeriod)
  /-- READ_TILES (R105): Request that returns a run of Tile Map entries. -/
  | readTiles (p : SelectPeriod)
  /-- READ_ENGINE (R124): Request that returns the engine's job, progress, marks and power. -/
  | readEngine (p : SelectPeriod)
  /-- READ_BLOCK (R131): P-link request that begins a bulk read of the output image stream. -/
  | readBlock (p : SelectPeriod)
  /-- REQUEST_PREVIEW (R133): P-link request that sets the preview pending mark. -/
  | requestPreview (p : SelectPeriod)
  /-- READ_PREVIEW (R136): P-link request that begins a bulk read of the preview stream with its stamp. -/
  | readPreview (p : SelectPeriod)
  /-- READ_TOTALS (R137): Request that returns the session totals and run time. -/
  | readTotals (p : SelectPeriod)
  /-- SET_POWER (R143): P-link request for ACTIVE or STANDBY, carried out at once, refused, or left waiting. -/
  | setPower (p : SelectPeriod)
  /-- SET_STAY_AWAKE (R147): S-link request that sets or clears the stay-awake demand. -/
  | setStayAwake (p : SelectPeriod)
  /-- READ_POWER (R152): Request that returns the Power Controller state and the DOZE and hold conditions. -/
  | readPower (p : SelectPeriod)
  /-- READ_EVENTS (R162): Request that returns the link's pending set, enable set, group order and lead event. -/
  | readEvents (p : SelectPeriod)
  /-- ACKNOWLEDGE_EVENTS (R163): Request that removes events from the link's pending set. -/
  | acknowledgeEvents (p : SelectPeriod)
  /-- SET_EVENT_ENABLE (R164): Request that replaces the link's enable set. -/
  | setEventEnable (p : SelectPeriod)
  /-- SET_EVENT_ORDER (R165): Request that replaces the link's group order. -/
  | setEventOrder (p : SelectPeriod)
  /-- READ_STATUS (R166): Request that returns identity, session, sequencer, power, engine and event status. -/
  | readStatus (p : SelectPeriod)
  /-- UNKNOWN_REQUEST (R154): A request whose code names no request, answered UNKNOWN with only the effects of its taking. -/
  | unknownRequest (code : Byte) (p : SelectPeriod)
  /-- COLLECTION (R156): A select period beginning with the collect code, which sends the pending response or a marker. -/
  | collection (link : Link) (clocks : Nat)
  /-- REMOTE_LINE_CHANGE (R38): A change of level on REMOTE, which restarts the 20 ms debounce interval. -/
  | remoteLineChange (low : Bool)
  /-- REMOTE_PRESS (R38): The debounced REMOTE state becomes PRESSED after 20 ms low, acted on by mode and session state. -/
  | remotePress
  /-- REMOTE_RELEASE (R38): The debounced REMOTE state becomes RELEASED after 20 ms high. -/
  | remoteRelease
  /-- SHUTTER_CLOSED_ASSERT (R40): SHUTTER_CLOSED asserts, confirming the cover closed and opening the waiting dark. -/
  | shutterClosedAssert
  /-- SHUTTER_CLOSED_DEASSERT (R41): SHUTTER_CLOSED deasserts, confirming the cover open after a dark. -/
  | shutterClosedDeassert
  /-- HOLD_ENTRY (R148): The hold condition becomes met with PF_WARN asserted, entering HOLD and starting the reserve timer. -/
  | holdEntry
  /-- SUPPLY_RETURN (R150): PF_WARN deasserts during HOLD, cancelling the reserve and returning to ACTIVE. -/
  | supplyReturn
  /-- RESERVE_EXPIRY (R151): The reserve timer expires in HOLD, making the session LOST and entering STANDBY. -/
  | reserveExpiry
  /-- FRAME_START (R54): A frame start arrives on the Sensor Port and the frame is accepted, discarded or truncates the previous one. -/
  | frameStart
  /-- IMAGE_LINE (R55): An image line arrives and is counted and written into the receiving staging buffer. -/
  | imageLine (lanes : List (List Pixel))
  /-- TRAILER_LINE (R56): A frame's trailer arrives, recording the temperature and making the geometry check. -/
  | trailerLine (frameCounter : BitVec 16) (temperature : BitVec 12)
  /-- CADENCE_TIMER_EXPIRY (R34): The Cadence Timer expires in TIMED mode, making a start or being kept. -/
  | cadenceTimerExpiry
  /-- SEQUENCER_START (R31): The sequencer makes a start in WAIT_START once no descriptor is READING. -/
  | sequencerStart
  /-- EXPOSURE_END (R33): An exposure reaches its length, its REMOTE_GATE minimum or its maximum, and its descriptor becomes READING. -/
  | exposureEnd
  /-- CLOSE_TIMEOUT (R40): The shutter timer expires in WAIT_SHUTTER; the dark is skipped and a light opens. -/
  | closeTimeout
  /-- OPEN_TIMEOUT (R41): The shutter timer expires in WAIT_OPEN, raising SHUTTER_FAULT and pausing a running session. -/
  | openTimeout
  /-- WAKE_ALARM_FIRES (R42): The wake alarm fires 40 ms before an exposure ends and wakes the part from DOZE. -/
  | wakeAlarmFires
  /-- READOUT_TIMEOUT (R57): The readout timer expires with the descriptor still READING, which is retired REJECTED (GEOMETRY). -/
  | readoutTimeout
  /-- DURATION_LIMIT_REACHED (R15): The run time reaches the duration limit in a running state, and auto finish drains the session. -/
  | durationLimitReached
  /-- ENGINE_TAKES_JOB (R110): The free, powered engine takes its next job by the job order. -/
  | engineTakesJob
  /-- ENGINE_TILE_COMPLETE (R114): The engine completes one tile of its current job, and a pending stop takes effect. -/
  | engineTileComplete
  /-- PLANE_CLEAR_COMPLETE (R113): The plane clear completes and an ARMING session becomes ARMED. -/
  | planeClearComplete
  /-- MEASUREMENT_COMPLETE (R75): A light's measurement completes and its results are applied together. -/
  | measurementComplete
  /-- LIGHT_MERGE_COMPLETE (R120): A light's merge completes and the light is retired with its decided outcome. -/
  | lightMergeComplete
  /-- DARK_MERGE_COMPLETE (R95): A dark merge completes, updating the slot's count, state and use order, and the dark retires DARK_MERGED. -/
  | darkMergeComplete
  /-- FINISH_COMPLETE (R128): The finish completes, the output becomes VALID and the session becomes FINISHED. -/
  | finishComplete
  /-- PREVIEW_COMPLETE (R134): The preview completes, its stamp is written and PREVIEW_DONE is raised. -/
  | previewComplete
  /-- DRAIN_COMPLETE (R13): No descriptor remains in flight in DRAINING, so the session enters FINISHING and posts a finish. -/
  | drainComplete
  /-- DOZE_ENTRY (R140): All DOZE conditions hold, so the part begins the entry to DOZE. -/
  | dozeEntry
  /-- POWER_TRANSITION_COMPLETE (R139): A power transition's domains reach their new state, CHANGING clears and POWER_STATE is raised. -/
  | powerTransitionComplete
  /-- WAITING_REQUEST_CARRIED_OUT (R144): A waiting STANDBY-when-idle request is carried out once the session is IDLE or LOST and the part is ACTIVE and settled. -/
  | waitingRequestCarriedOut
  /-- BULK_READ_COMPLETE (R157): A waiting bulk read takes its bytes once the memory is ACTIVE, and its response becomes READY. -/
  | bulkReadComplete
  /-- PF_WARN_LINE_CHANGE (R148): PF_WARN changes level without entering or leaving HOLD: it asserts while the hold condition is not met, or deasserts outside HOLD, and only the line level changes. -/
  | pfWarnLineChange (asserted : Bool)
  deriving DecidableEq, Repr

end Sys2Proof
end

