-- ==== Sys2Proof/WellFormed.lean ====
section
/-! DEFINITION. Which commands are well formed: those that name something the manual lets happen. The fields of a
request are the master's own and are judged by the part (R154), so every request is well formed. -/

namespace Sys2Proof

/-- A request code that names a request of the catalogue of section 9.2: 01h to 28h (R167). -/
def isRequestCode (code : Byte) : Bool := 1 ≤ code.toNat && code.toNat ≤ 0x28

/-- The collect code (R167). -/
def collectCode : Byte := 0x80#8

/-- A sensor is wired with 2 or 4 lanes (R48, section 1.2). -/
def lanesWired (lanes : List (List Pixel)) : Bool := lanes.length == 2 || lanes.length == 4

/-- Well-formed commands: an unknown request carries a code that names no request and is not the collect code
(R154), and an image line comes over 2 or 4 lanes (R52). -/
def Instr.WellFormed : Instr → Bool
  | .unknownRequest code _ => !isRequestCode code && code != collectCode
  | .imageLine lanes => lanesWired lanes
  | _ => true

end Sys2Proof
end

