-- ==== Sys2Proof/Decode.lean ====
section
/-! DEFINITION. From the bytes of a select period to a command and back (R154, R167). The opcode table gives its
rows no bits, so `decodeTableWord` names no command. -/

namespace Sys2Proof

/-- The request that a code of the catalogue names (R158, R167): its place in the catalogue, from 01h for Arm. -/
def requestNamed (code : Byte) (p : SelectPeriod) : Option Instr :=
  match code.toNat with
  | 0x01 => some (.arm p)
  | 0x02 => some (.start p)
  | 0x03 => some (.pause p)
  | 0x04 => some (.resume p)
  | 0x05 => some (.finish p)
  | 0x06 => some (.extend p)
  | 0x07 => some (.closeSession p)
  | 0x08 => some (.writePlan p)
  | 0x09 => some (.readPlan p)
  | 0x0a => some (.selectPlan p)
  | 0x0b => some (.setPartSettings p)
  | 0x0c => some (.readPartSettings p)
  | 0x0d => some (.readSequencer p)
  | 0x0e => some (.triggerSub p)
  | 0x0f => some (.configureSensor p)
  | 0x10 => some (.readSensor p)
  | 0x11 => some (.readSubOutcome p)
  | 0x12 => some (.readRing p)
  | 0x13 => some (.reportPose p)
  | 0x14 => some (.dropStar p)
  | 0x15 => some (.readDrift p)
  | 0x16 => some (.readGuidance p)
  | 0x17 => some (.readStarTable p)
  | 0x18 => some (.clearDarkSlot p)
  | 0x19 => some (.readDarkLibrary p)
  | 0x1a => some (.writeTiles p)
  | 0x1b => some (.readTiles p)
  | 0x1c => some (.readEngine p)
  | 0x1d => some (.readBlock p)
  | 0x1e => some (.requestPreview p)
  | 0x1f => some (.readPreview p)
  | 0x20 => some (.readTotals p)
  | 0x21 => some (.setPower p)
  | 0x22 => some (.setStayAwake p)
  | 0x23 => some (.readPower p)
  | 0x24 => some (.readEvents p)
  | 0x25 => some (.acknowledgeEvents p)
  | 0x26 => some (.setEventEnable p)
  | 0x27 => some (.setEventOrder p)
  | 0x28 => some (.readStatus p)
  | _ => none

/-- The command that a select period is (R154): none when no byte is clocked, a collection when the first byte is the
collect code, and otherwise the request that its first byte names, or an unknown one. -/
def decodeSelectPeriod (link : Link) : List Byte → Option Instr
  | [] => none
  | code :: rest =>
    if code = collectCode then some (.collection link rest.length)
    else
      match requestNamed code ⟨link, rest⟩ with
      | some i => some i
      | none => some (.unknownRequest code ⟨link, rest⟩)

/-- The bytes a master clocks for a link command (R154, R167), with the link; none for the other commands. The bytes a
master sends after a collect code are its own and carry nothing: they are written as 00h. -/
def encodeSelectPeriod : Instr → Option (Link × List Byte)
  | .arm p => some (p.link, 0x01#8 :: p.bytes)
  | .start p => some (p.link, 0x02#8 :: p.bytes)
  | .pause p => some (p.link, 0x03#8 :: p.bytes)
  | .resume p => some (p.link, 0x04#8 :: p.bytes)
  | .finish p => some (p.link, 0x05#8 :: p.bytes)
  | .extend p => some (p.link, 0x06#8 :: p.bytes)
  | .closeSession p => some (p.link, 0x07#8 :: p.bytes)
  | .writePlan p => some (p.link, 0x08#8 :: p.bytes)
  | .readPlan p => some (p.link, 0x09#8 :: p.bytes)
  | .selectPlan p => some (p.link, 0x0a#8 :: p.bytes)
  | .setPartSettings p => some (p.link, 0x0b#8 :: p.bytes)
  | .readPartSettings p => some (p.link, 0x0c#8 :: p.bytes)
  | .readSequencer p => some (p.link, 0x0d#8 :: p.bytes)
  | .triggerSub p => some (p.link, 0x0e#8 :: p.bytes)
  | .configureSensor p => some (p.link, 0x0f#8 :: p.bytes)
  | .readSensor p => some (p.link, 0x10#8 :: p.bytes)
  | .readSubOutcome p => some (p.link, 0x11#8 :: p.bytes)
  | .readRing p => some (p.link, 0x12#8 :: p.bytes)
  | .reportPose p => some (p.link, 0x13#8 :: p.bytes)
  | .dropStar p => some (p.link, 0x14#8 :: p.bytes)
  | .readDrift p => some (p.link, 0x15#8 :: p.bytes)
  | .readGuidance p => some (p.link, 0x16#8 :: p.bytes)
  | .readStarTable p => some (p.link, 0x17#8 :: p.bytes)
  | .clearDarkSlot p => some (p.link, 0x18#8 :: p.bytes)
  | .readDarkLibrary p => some (p.link, 0x19#8 :: p.bytes)
  | .writeTiles p => some (p.link, 0x1a#8 :: p.bytes)
  | .readTiles p => some (p.link, 0x1b#8 :: p.bytes)
  | .readEngine p => some (p.link, 0x1c#8 :: p.bytes)
  | .readBlock p => some (p.link, 0x1d#8 :: p.bytes)
  | .requestPreview p => some (p.link, 0x1e#8 :: p.bytes)
  | .readPreview p => some (p.link, 0x1f#8 :: p.bytes)
  | .readTotals p => some (p.link, 0x20#8 :: p.bytes)
  | .setPower p => some (p.link, 0x21#8 :: p.bytes)
  | .setStayAwake p => some (p.link, 0x22#8 :: p.bytes)
  | .readPower p => some (p.link, 0x23#8 :: p.bytes)
  | .readEvents p => some (p.link, 0x24#8 :: p.bytes)
  | .acknowledgeEvents p => some (p.link, 0x25#8 :: p.bytes)
  | .setEventEnable p => some (p.link, 0x26#8 :: p.bytes)
  | .setEventOrder p => some (p.link, 0x27#8 :: p.bytes)
  | .readStatus p => some (p.link, 0x28#8 :: p.bytes)
  | .unknownRequest code p => some (p.link, code :: p.bytes)
  | .collection link clocks => some (link, collectCode :: List.replicate clocks 0#8)
  | .fullReset => none
  | .remoteLineChange _ => none
  | .remotePress => none
  | .remoteRelease => none
  | .shutterClosedAssert => none
  | .shutterClosedDeassert => none
  | .holdEntry => none
  | .supplyReturn => none
  | .reserveExpiry => none
  | .frameStart => none
  | .imageLine _ => none
  | .trailerLine _ _ => none
  | .cadenceTimerExpiry => none
  | .sequencerStart => none
  | .exposureEnd => none
  | .closeTimeout => none
  | .openTimeout => none
  | .wakeAlarmFires => none
  | .readoutTimeout => none
  | .durationLimitReached => none
  | .engineTakesJob => none
  | .engineTileComplete => none
  | .planeClearComplete => none
  | .measurementComplete => none
  | .lightMergeComplete => none
  | .darkMergeComplete => none
  | .finishComplete => none
  | .previewComplete => none
  | .drainComplete => none
  | .dozeEntry => none
  | .powerTransitionComplete => none
  | .waitingRequestCarriedOut => none
  | .bulkReadComplete => none
  | .pfWarnLineChange _ => none

/-- The command that a word spells by the bits of spec/opcode_table.json. The table gives none of its rows any bits, so
no word spells a command. -/
def decodeTableWord (_nbits _w : Nat) : Option Instr := none

end Sys2Proof
end

