-- ==== Sys2Proof/Machine/State.lean ====
section
/-! DEFINITION. The state of the FN-412, block by block, as plain data, and the state right after a full reset.
Each structure's docstring names the rule of spec/ that gives its items. -/

namespace Sys2Proof.Machine

/-! ## Session Controller (chapter 1) -/

/-- Session state (R1). -/
inductive SessionState where
  | idle | arming | armed | referencing | integrating | paused | draining | finishing | finished | lost
  deriving DecidableEq, Repr

/-- Pause cause (R1, R8). -/
inductive PauseCause where
  | request | remote | moved | starless | sensor | shutter | hold
  deriving DecidableEq, Repr

/-- Trigger mode of a plan (R19). -/
inductive TriggerMode where
  | timed | single | remoteEdge | remoteGate
  deriving DecidableEq, Repr

/-- The eighteen fields of a plan, in the order of R19. -/
structure Plan where
  subLength : Nat
  gap : Nat
  triggerMode : TriggerMode
  subLimit : Nat
  durationLimit : Nat
  autoFinish : Bool
  darkCadence : Nat
  darkMinimum : Nat
  blackLevel : Nat
  rejectK : Nat
  rejectMin : Nat
  floorVariance : Nat
  starThreshold : Nat
  windowRadius : Nat
  driftLimit : Nat
  outputPedestal : Nat
  autoDoze : Bool
  resumeAfterHold : Bool
  deriving DecidableEq, Repr

/-- Every field at its default (R19). -/
def Plan.default : Plan where
  subLength := 30000
  gap := 1000
  triggerMode := .timed
  subLimit := 65535
  durationLimit := 0
  autoFinish := true
  darkCadence := 0
  darkMinimum := 4
  blackLevel := 512
  rejectK := 48
  rejectMin := 5
  floorVariance := 16
  starThreshold := 200
  windowRadius := 12
  driftLimit := 128
  outputPedestal := 1024
  autoDoze := true
  resumeAfterHold := true

/-- The session totals (R26). -/
structure Totals where
  subsOpened : Nat
  lightsMerged : Nat
  lightsGroundOnly : Nat
  rejectedShake : Nat
  rejectedMoved : Nat
  rejectedGeometry : Nat
  rejectedPaused : Nat
  rejectedAbandoned : Nat
  skipped : Nat
  darksMerged : Nat
  darksDiscarded : Nat
  rejectedCells : Nat
  skyMs : Nat
  groundMs : Nat
  deriving DecidableEq, Repr

/-- Every total at zero (R26). -/
def Totals.zero : Totals := ⟨0, 0, 0, 0, 0, 0, 0, 0, 0, 0, 0, 0, 0, 0⟩

/-- The Session Controller's items (R1) with the part settings (R24). -/
structure Session where
  state : SessionState
  pauseCause : Option PauseCause
  referenceSet : Bool
  attempts : Nat
  movedCount : Nat
  geometryCount : Nat
  runTime : Nat
  plans : Vector Plan 4
  activePlan : Fin 4
  pendingPlan : Option (Fin 4)
  totals : Totals
  holdReserve : Nat
  remoteWake : Bool
  deriving DecidableEq, Repr

/-! ## Exposure Sequencer (chapter 2) -/

/-- Exposure phase (R27). -/
inductive Phase where
  | idle | waitStart | waitShutter | exposing | waitOpen
  deriving DecidableEq, Repr

/-- Kind of a sub (R59, R172). -/
inductive SubKind where
  | light | dark
  deriving DecidableEq, Repr

/-- Last shutter fault (R27). -/
inductive ShutterFault where
  | closeTimeout | openTimeout
  deriving DecidableEq, Repr

/-- The current exposure (R27). `released` is the model's own item for R37's "becomes RELEASED earlier": the debounced
REMOTE state has become RELEASED during this exposure, or was so at its opening (assumption 19). -/
structure CurrentExposure where
  index : Fin 6
  sub : Nat
  kind : SubKind
  start : Clock
  plannedEnd : Clock
  released : Bool
  deriving DecidableEq, Repr

/-- The Exposure Sequencer's items (R27). `debounceTimer` is the 20 ms interval of R38: the clock value at which the
debounced REMOTE state takes the line's level, or absent. -/
structure Sequencer where
  clock : Clock
  phase : Phase
  cadenceTimer : Option Clock
  keptExpiry : Bool
  current : Option CurrentExposure
  lightsSinceDark : Nat
  remotePressed : Bool
  debounceTimer : Option Clock
  shutterTimer : Option Clock
  wakeAlarm : Option Clock
  lastFault : Option (ShutterFault × Clock)
  deriving DecidableEq, Repr

/-! ## Sensor Port (chapter 3) -/

/-- Bayer phase (R48, R51). -/
inductive Bayer where
  | rggb | grbg | gbrg | bggr
  deriving DecidableEq, Repr

/-- Lane sync (R48). -/
inductive LaneSync where
  | synced | awaitingFrameStart
  deriving DecidableEq, Repr

/-- Reception state (R48); `receiving` carries the sub number. -/
inductive Reception where
  | idle | discarding | receiving (sub : Nat)
  deriving DecidableEq, Repr

/-- Last frame result (R48). -/
inductive FrameResult where
  | passed | failedShape | failedTruncated | failedTimeout
  deriving DecidableEq, Repr

/-- The two values of a trailer line (R52). -/
structure Trailer where
  frameCounter : Nat
  temperature : Int
  deriving DecidableEq, Repr

/-- The Sensor Port's items (R48). -/
structure SensorPort where
  width : Nat
  height : Nat
  bayer : Bayer
  lanes : Nat
  sync : LaneSync
  reception : Reception
  lineCount : Nat
  pixelCount : Nat
  frameFailed : Bool
  readoutTimer : Option Clock
  lastTrailer : Option Trailer
  lastResult : Option FrameResult
  discarded : Nat
  deriving DecidableEq, Repr

/-! ## Sub Ring (chapter 3) -/

/-- State of a descriptor (R59, R60). -/
inductive DescState where
  | free | exposing | reading | waiting | measuring | merging | retired
  deriving DecidableEq, Repr

/-- Quality of a reported pose (R72). -/
inductive Quality where
  | steady | shaken | moved
  deriving DecidableEq, Repr

/-- A descriptor's pose (R59): rotation in binary angle units, translation in sixteenths. -/
inductive Pose where
  | absent
  | reported (phi : Nat) (tx ty : Int) (quality : Quality)
  | predicted (phi : Nat) (tx ty : Int)
  deriving DecidableEq, Repr

/-- Calibration used (R59, R100). -/
inductive Calibration where
  | exact | neighbour | blackLevel
  deriving DecidableEq, Repr

/-- Cause of a GROUND_ONLY outcome (R64). -/
inductive GroundCause where
  | noStars | drift | referenceFailed
  deriving DecidableEq, Repr

/-- Cause of a REJECTED outcome (R64). -/
inductive RejectCause where
  | shake | moved | geometry | paused | abandoned
  deriving DecidableEq, Repr

/-- Cause of a DARK_DISCARDED outcome (R64). -/
inductive DiscardCause where
  | noSlot | slotFull
  deriving DecidableEq, Repr

/-- The outcomes of a retired sub with their causes (R64). -/
inductive SubOutcome where
  | merged
  | groundOnly (cause : GroundCause)
  | rejected (cause : RejectCause)
  | partialMerge
  | darkMerged
  | darkDiscarded (cause : DiscardCause)
  deriving DecidableEq, Repr

/-- A sub descriptor (R59); its index is its place in the ring. -/
structure Descriptor where
  state : DescState
  sub : Nat
  kind : SubKind
  start : Clock
  exposure : Nat
  temperature : Option Int
  snapshot : Plan
  pose : Pose
  residual : Option (Int × Int)
  matched : Nat
  calibration : Option Calibration
  outcome : Option SubOutcome
  rejectedCells : Nat
  mergedSky : Nat
  mergedGround : Nat
  deriving DecidableEq, Repr

/-- A FREE descriptor. Its fields other than its state have no meaning (R59); the model writes them all alike, and
every read of the ring gives a FREE descriptor's sub number as 0 (R61, R67). -/
def Descriptor.freed : Descriptor where
  state := .free
  sub := 0
  kind := .light
  start := 0
  exposure := 0
  temperature := none
  snapshot := Plan.default
  pose := .absent
  residual := none
  matched := 0
  calibration := none
  outcome := none
  rejectedCells := 0
  mergedSky := 0
  mergedGround := 0

/-- The Sub Ring (R59). -/
structure Ring where
  desc : Vector Descriptor 6
  lastOpened : Nat
  lastRetired : Nat
  deriving DecidableEq, Repr

/-! ## Guidance Unit (chapter 4) -/

/-- The reference record (R68). -/
structure ReferenceRecord where
  sub : Nat
  midTime : Clock
  deriving DecidableEq, Repr

/-- One entry of the pose history (R68, R74). -/
structure PoseEntry where
  sub : Nat
  midTime : Clock
  phi : Nat
  tx : Int
  ty : Int
  quality : Quality
  deriving DecidableEq, Repr

/-- State of a Guide Star Table entry (R76). -/
inductive StarState where
  | vacant | locked | missing | lost | hidden
  deriving DecidableEq, Repr

/-- An entry of the Guide Star Table (R76). -/
structure Star where
  state : StarState
  refX : Int
  refY : Int
  flux : Nat
  lastPos : Option (Int × Int)
  lastResidual : Option (Int × Int)
  missCount : Nat
  lastFound : Nat
  deriving DecidableEq, Repr

/-- A VACANT entry; its other fields have no meaning (R76). -/
def Star.vacated : Star := ⟨.vacant, 0, 0, 0, none, none, 0, 0⟩

/-- Pose source in the drift record (R87). -/
inductive PoseSource where
  | reported | predicted | reference
  deriving DecidableEq, Repr

/-- Result in the drift record (R86, R87). -/
inductive DriftResult where
  | applied | exceeded | tooFew
  deriving DecidableEq, Repr

/-- The drift record (R87). -/
structure DriftRecord where
  sub : Nat
  residual : Option (Int × Int)
  matched : Nat
  source : PoseSource
  result : DriftResult
  deriving DecidableEq, Repr

/-- The Guidance Unit's items (R68). The pose history stands newest first. -/
structure Guidance where
  reference : Option ReferenceRecord
  history : List PoseEntry
  stars : Vector Star 24
  reacquisitionDue : Bool
  drift : Option DriftRecord
  deriving DecidableEq, Repr

/-- The Guidance Unit after full reset and after Close Session (R68). -/
def Guidance.cleared : Guidance := ⟨none, [], Vector.replicate 24 Star.vacated, false, none⟩

/-! ## Dark Library (chapter 5) -/

/-- State of a dark slot (R90). -/
inductive SlotState where
  | empty | building | ready
  deriving DecidableEq, Repr

/-- A dark slot's fields but for its sums, which lie in the stacked DRAM (R90). -/
structure DarkSlot where
  state : SlotState
  band : Nat
  count : Nat
  lastUsed : Nat
  deriving DecidableEq, Repr

/-- An EMPTY slot; its other fields have no meaning (R90). -/
def DarkSlot.emptied : DarkSlot := ⟨.empty, 0, 0, 0⟩

/-- The Dark Library's items (R90); the use order stands least recently used first. -/
structure DarkLibrary where
  slots : Vector DarkSlot 4
  useOrder : List (Fin 4)
  mergeTarget : Option (Fin 4)
  inUse : Option (Fin 4)
  deriving DecidableEq, Repr

/-- The emptied library (R98). -/
def DarkLibrary.emptied : DarkLibrary := ⟨Vector.replicate 4 DarkSlot.emptied, [], none, none⟩

/-! ## Tile Map and Integration Engine (chapter 6) -/

/-- Tile class (R103). -/
inductive TileClass where
  | sky | ground | blend
  deriving DecidableEq, Repr

/-- A Tile Map entry (R103). -/
structure TileEntry where
  tileClass : TileClass
  weight : Nat
  deriving DecidableEq, Repr

/-- The default entry (R103). -/
def TileEntry.default : TileEntry := ⟨.sky, 16⟩

/-- The engine's current job (R109). -/
inductive Job where
  | none | planeClear | descriptor (index : Fin 6) | preview | finish
  deriving DecidableEq, Repr

/-- The engine's stop request (R109). -/
inductive StopRequest where
  | none | hold | close
  deriving DecidableEq, Repr

/-- The two requesters between which the memory arbiter alternates (R108). -/
inductive Requester where
  | engine | link
  deriving DecidableEq, Repr

/-- What a preview notes at its taking for its stamp (R134). -/
structure PreviewNote where
  lightsMerged : Nat
  lightsGroundOnly : Nat
  skyMs : Nat
  pedestal : Nat
  deriving DecidableEq, Repr

/-- The preview stamp (R125). -/
structure PreviewStamp where
  note : PreviewNote
  clock : Clock
  deriving DecidableEq, Repr

/-- The transform a merge uses (R70, R115): the rotation and the merge translation. -/
structure Transform where
  phi : Nat
  tx : Int
  ty : Int
  deriving DecidableEq, Repr

/-- What the engine carries through its current job beside the job's name (R112): the path of a measurement and the
calibration its calibration step chose (R75, R100), the outcome decided and the transform of a light's merge, the
note of a preview. -/
inductive Work where
  | none
  | measuring (aligned : Bool) (calibration : Option (Calibration × Option (Fin 4)))
  | merging (outcome : SubOutcome) (aligned : Bool) (sky : Option Transform)
  | darkMerging
  | preview (note : PreviewNote)
  deriving DecidableEq, Repr

/-- The engine's items (R109), with the requester that the memory arbiter granted last of the engine and a link
bulk read (R108). -/
structure Engine where
  job : Job
  work : Work
  tilesDone : Nat
  stop : StopRequest
  clearPending : Bool
  finishPending : Bool
  previewPending : Bool
  lastGranted : Requester
  deriving DecidableEq, Repr

/-! ## Results (chapter 7) -/

/-- Output marker and preview marker (R125). -/
inductive Marker where
  | empty | valid
  deriving DecidableEq, Repr

/-- Last preview end (R125). -/
inductive PreviewEnd where
  | completed | droppedHold | droppedClose
  deriving DecidableEq, Repr

/-- The result state (R125). -/
structure Results where
  output : Marker
  pedestal : Nat
  preview : Marker
  stamp : PreviewStamp
  lastPreviewEnd : Option PreviewEnd
  deriving DecidableEq, Repr

/-! ## Power Controller (chapter 8) -/

/-- Power state (R138). -/
inductive PowerState where
  | active | doze | hold | standby
  deriving DecidableEq, Repr

/-- Memory state (R138). -/
inductive MemoryState where
  | active | selfRefresh | off
  deriving DecidableEq, Repr

/-- Last wake cause (R138). -/
inductive WakeCause where
  | remote | pLink | sLink | alarm | supplyReturn
  deriving DecidableEq, Repr

/-- Last refusal cause (R138). -/
inductive RefusalCause where
  | notIdle | stayAwake | woken | busyChanging
  deriving DecidableEq, Repr

/-- The Power Controller's items (R138). `waiting` says that a STANDBY-when-idle request waits. -/
structure Power where
  state : PowerState
  changing : Bool
  memory : MemoryState
  engineOn : Bool
  waiting : Bool
  stayAwake : Bool
  reserveTimer : Option Clock
  wakePending : Bool
  lastWake : Option WakeCause
  lastRefusal : Option RefusalCause
  deriving DecidableEq, Repr

/-! ## Links (chapter 9) -/

/-- The outcome codes of a response (R158). -/
inductive ReqOutcome where
  | done | doneClamped | accepted | refusedState | refusedLink | refusedRange | busy | stale | held | unknown
  deriving DecidableEq, Repr

/-- A response record (R155): the code and tag of its request, the outcome, the field list and the payload. -/
structure Response where
  code : Byte
  tag : Byte
  outcome : ReqOutcome
  fields : List Nat
  payload : List Byte
  deriving DecidableEq, Repr

/-- The two streams a bulk read carries (R131, R136). -/
inductive Stream where
  | output | preview
  deriving DecidableEq, Repr

/-- A link bulk read in progress (R132, R157): the stream, the first offset and the number of bytes. -/
structure BulkRead where
  stream : Stream
  offset : Nat
  count : Nat
  deriving DecidableEq, Repr

/-- A link's pending response (R153): READY with no bulk read, NOT_READY while its bulk read is in progress. -/
structure PendingResponse where
  response : Response
  bulk : Option BulkRead
  deriving DecidableEq, Repr

/-- The event groups (R159, R179). -/
inductive EventGroup where
  | session | subs | guidance | power
  deriving DecidableEq, Repr

/-- A link's items (R153). `sent` holds what the part last drove on the link's data line (R154, R156). -/
structure LinkState where
  response : Option PendingResponse
  pendingSet : BitVec 16
  enableSet : BitVec 16
  order : List EventGroup
  attention : Bool
  sent : List Byte
  deriving DecidableEq, Repr

/-! ## Lines (section 2.2) and stacked DRAM (R106) -/

/-- The levels of the lines. REMOTE is low when pressed; every other line is active high (section 4.5). -/
structure Lines where
  trigger : Bool
  shutterClose : Bool
  remoteLow : Bool
  shutterClosed : Bool
  pfWarn : Bool
  deriving DecidableEq, Repr

/-- The four channel values of a cell, in the order R, Ga, Gb, B (section 4.2). -/
structure Quad where
  r : Nat
  ga : Nat
  gb : Nat
  b : Nat
  deriving DecidableEq, Repr

/-- Four zeros. -/
def Quad.zero : Quad := ⟨0, 0, 0, 0⟩

/-- A cell record of a plane (R107). -/
structure CellRecord where
  sum : Quad
  square : Quad
  count : Nat
  deriving DecidableEq, Repr

/-- The cell record a plane clear writes (R113). -/
def CellRecord.zero : CellRecord := ⟨Quad.zero, Quad.zero, 0⟩

/-- A region of the stacked DRAM: the entries that differ from the region's cleared value, by index, the indexes
strictly rising. -/
abbrev Region (α : Type) := List (Nat × α)

/-- The regions of the stacked DRAM (R106). -/
structure Dram where
  staging : Vector (Region Nat) 6
  darkSums : Vector (Region Quad) 4
  sky : Region CellRecord
  ground : Region CellRecord
  output : Region Nat
  preview : Region Nat
  deriving DecidableEq, Repr

/-- Memory with nothing listed in any region: what the model takes it to hold after full reset and after the memory
has been OFF (R106; assumption 5). -/
def Dram.cleared : Dram :=
  ⟨Vector.replicate 6 [], Vector.replicate 4 [], [], [], [], []⟩

/-! ## The whole machine -/

/-- The state of the FN-412. `free` is the model's counter of responses that carry a byte without a meaning
(assumption 2); `pending` is the queue of the commands that wait, first in, first out. -/
structure State where
  session : Session
  seq : Sequencer
  port : SensorPort
  ring : Ring
  guidance : Guidance
  darks : DarkLibrary
  tileMap : Region TileEntry
  engine : Engine
  results : Results
  power : Power
  pLink : LinkState
  sLink : LinkState
  lines : Lines
  dram : Dram
  free : Nat
  pending : List Instr
  deriving DecidableEq, Repr

/-! ## Full reset -/

/-- The Session Controller after full reset (R1, R19, R24). -/
def Session.atReset : Session where
  state := .idle
  pauseCause := none
  referenceSet := false
  attempts := 0
  movedCount := 0
  geometryCount := 0
  runTime := 0
  plans := Vector.replicate 4 Plan.default
  activePlan := 0
  pendingPlan := none
  totals := Totals.zero
  holdReserve := 30
  remoteWake := true

/-- The Exposure Sequencer after full reset (R27). -/
def Sequencer.atReset : Sequencer where
  clock := 0
  phase := .idle
  cadenceTimer := none
  keptExpiry := false
  current := none
  lightsSinceDark := 0
  remotePressed := false
  debounceTimer := none
  shutterTimer := none
  wakeAlarm := none
  lastFault := none

/-- The Sensor Port after full reset (R48). -/
def SensorPort.atReset : SensorPort where
  width := 6016
  height := 4032
  bayer := .rggb
  lanes := 4
  sync := .awaitingFrameStart
  reception := .idle
  lineCount := 0
  pixelCount := 0
  frameFailed := false
  readoutTimer := none
  lastTrailer := none
  lastResult := none
  discarded := 0

/-- The Sub Ring after full reset (R59, R65). -/
def Ring.atReset : Ring := ⟨Vector.replicate 6 Descriptor.freed, 0, 0⟩

/-- The engine after full reset (R109). The arbiter's last grant has no reset value in the manual (assumption 6). -/
def Engine.atReset : Engine := ⟨.none, .none, 0, .none, false, false, false, .link⟩

/-- The result state after full reset (R125). The pedestal and the stamp have no value there while their markers are
EMPTY (assumption 6). -/
def Results.atReset : Results := ⟨.empty, 0, .empty, ⟨⟨0, 0, 0, 0⟩, 0⟩, none⟩

/-- The Power Controller after full reset (R138). -/
def Power.atReset : Power where
  state := .active
  changing := false
  memory := .active
  engineOn := true
  waiting := false
  stayAwake := false
  reserveTimer := none
  wakePending := false
  lastWake := none
  lastRefusal := none

/-- The P-link after full reset (R153, R179). -/
def LinkState.pAtReset : LinkState :=
  ⟨none, 0, 0x700f#16, [.session, .power, .subs, .guidance], false, []⟩

/-- The S-link after full reset (R153, R179). -/
def LinkState.sAtReset : LinkState :=
  ⟨none, 0, 0x0f10#16, [.guidance, .subs, .power, .session], false, []⟩

/-- The lines after full reset: TRIGGER and SHUTTER_CLOSE are deasserted (R27). The three inputs are whatever their
drivers say; the model takes each as inactive (assumption 6). -/
def Lines.atReset : Lines := ⟨false, false, false, false, false⟩

/-- The machine right after a full reset (R1, R27, R48, R59, R68, R90, R103, R109, R125, R138, R153). -/
def State.reset : State where
  session := Session.atReset
  seq := Sequencer.atReset
  port := SensorPort.atReset
  ring := Ring.atReset
  guidance := Guidance.cleared
  darks := DarkLibrary.emptied
  tileMap := []
  engine := Engine.atReset
  results := Results.atReset
  power := Power.atReset
  pLink := LinkState.pAtReset
  sLink := LinkState.sAtReset
  lines := Lines.atReset
  dram := Dram.cleared
  free := 0
  pending := []

/-! ## Stops -/

/-- The reasons a step can stop with a fault. There is none: the manual gives every command an effect or an answer,
so no meaning ends in a fault (safe: nothing stops). -/
inductive Fault where
  deriving DecidableEq, Repr

/-- The reasons a step can be refused. -/
inductive Refusal where
  /-- Raised by `exec` alone, for a command that has no meaning yet (safe: the run stops). No arm of this model
  raises it. -/
  | notModelled (mnemonic : String)
  deriving DecidableEq, Repr

end Sys2Proof.Machine
end

