-- ==== Sys2Proof/Machine/Arith.lean ====
section
/-! DEFINITION. The manual's arithmetic (section 4.3), the sine table (R69) and the transforms (R70, R71). -/

namespace Sys2Proof.Machine

/-- `n / d` rounded half away from zero (section 4.3), for `d` above 0. -/
def roundDiv (n d : Int) : Int := if 0 ≤ n then (2 * n + d) / (2 * d) else -((2 * -n + d) / (2 * d))

/-- Clamp(x, a, b) (section 4.3). -/
def clampInt (x a b : Int) : Int := if x < a then a else if b < x then b else x

/-- Clamp on numbers that are never negative (section 4.3). -/
def clampNat (x a b : Nat) : Nat := if x < a then a else if b < x then b else x

/-- A count that saturates at `top`. -/
def saturate (top n : Nat) : Nat := if top < n then top else n

/-! ## The sine table (R69)

Entry `a` is 32,767 · sin(a · 2π / 65,536) rounded. The sine is summed from its power series on whole numbers scaled
by 10^30, which leaves every entry's rounding decided (assumption 7). -/

/-- The scale of the sine's series. -/
def sineScale : Nat := 10 ^ 30

/-- π at the scale of the series. -/
def piScaled : Nat := 3141592653589793238462643383279

/-- The alternating series of the sine, from its term number `k` on. -/
def sineSeries : Nat → Nat → Nat → Nat → Int
  | 0, _, _, _ => 0
  | fuel + 1, k, term, xx =>
    term - sineSeries fuel (k + 1) (term * xx / sineScale / ((2 * k + 2) * (2 * k + 3))) xx

/-- The sine of `a` · 2π / 65,536 at the scale of the series. -/
def sineScaled (a : Nat) : Int :=
  let x := a * piScaled / 32768
  sineSeries 20 0 x (x * x / sineScale)

/-- Entry `a` of the quarter-wave table, for `a` = 0 to 16,384 (R69). -/
def sineEntry (a : Nat) : Int := roundDiv (32767 * sineScaled a) sineScale

/-- sin φ scaled by 32,767, by the quarter that holds φ (R69). -/
def sine (phi : Nat) : Int :=
  let q := phi % 65536 / 16384
  let a := phi % 16384
  if q = 0 then sineEntry a
  else if q = 1 then sineEntry (16384 - a)
  else if q = 2 then -sineEntry a
  else -sineEntry (16384 - a)

/-- cos φ scaled by 32,767 (R69). -/
def cosine (phi : Nat) : Int := sine (phi + 16384)

/-- The signed difference `x − y` of two angles, in −32,768 to +32,767 (R69). -/
def angleDiff (x y : Nat) : Int := (BitVec.ofInt 16 ((x : Int) - y)).toInt

/-! ## The transforms -/

/-- A position in sixteenths. -/
abbrev Position := Int × Int

/-- The forward transform with its sine and cosine at hand, about the frame centre `c` (R70). -/
def rotateForward (sn cs : Int) (c t r : Position) : Position :=
  let dx := r.1 - c.1
  let dy := r.2 - c.2
  (roundDiv (dx * cs - dy * sn) 32767 + c.1 + t.1, roundDiv (dx * sn + dy * cs) 32767 + c.2 + t.2)

/-- The inverse transform with its sine and cosine at hand (R71). -/
def rotateBack (sn cs : Int) (c t s : Position) : Position :=
  let ux := s.1 - c.1 - t.1
  let uy := s.2 - c.2 - t.2
  (roundDiv (ux * cs + uy * sn) 32767 + c.1, roundDiv (uy * cs - ux * sn) 32767 + c.2)

/-- The frame centre of a sensor of `w` × `h` pixels (R70). -/
def frameCentre (w h : Nat) : Position := (8 * w, 8 * h)

/-- The transform of a light sub, from the reference frame to the sub's own frame (R70). -/
def Transform.apply (w h : Nat) (t : Transform) (r : Position) : Position :=
  rotateForward (sine t.phi) (cosine t.phi) (frameCentre w h) (t.tx, t.ty) r

/-- The inverse transform, from the sub's own frame to the reference frame (R71). -/
def Transform.inverse (w h : Nat) (t : Transform) (s : Position) : Position :=
  rotateBack (sine t.phi) (cosine t.phi) (frameCentre w h) (t.tx, t.ty) s

/-- The transform of the reference sub (R70). -/
def Transform.identity : Transform := ⟨0, 0, 0⟩

/-! ## Temperature bands (R91) -/

/-- The band of a temperature in 1/8 °C. -/
def bandOf (theta : Int) : Nat := (clampInt ((theta + 320) / 16) 0 62).toNat

end Sys2Proof.Machine
end

