-- ==== Sys2Proof/Machine/Memory.lean ====
section
/-! DEFINITION. The one home of reads and writes of the stacked DRAM's regions (R106) and of the Tile Map: sparse
lists in one canonical form, so that equal contents are equal data. -/

namespace Sys2Proof.Machine

/-- What a region holds at index `k`: the listed value, or the cleared value `d`. -/
def regionRead {α : Type} (d : α) : Region α → Nat → α
  | [], _ => d
  | (a, v) :: rest, k => if a = k then v else regionRead d rest k

/-- A region with value `v` at index `k`; writing the cleared value removes the entry. -/
def regionWrite {α : Type} [DecidableEq α] (d : α) : Region α → Nat → α → Region α
  | [], k, v => if v = d then [] else [(k, v)]
  | (a, w) :: rest, k, v =>
    if k < a then (if v = d then (a, w) :: rest else (k, v) :: (a, w) :: rest)
    else if k = a then (if v = d then rest else (k, v) :: rest)
    else (a, w) :: regionWrite d rest k v

/-- A region with the values of a list written at consecutive indexes from `k` on. -/
def regionWriteRun {α : Type} [DecidableEq α] (d : α) (m : Region α) : Nat → List α → Region α
  | _, [] => m
  | k, v :: vs => regionWriteRun d (regionWrite d m k v) (k + 1) vs

/-- The canonical form: the indexes rise strictly, from above `lo`, and no entry holds the cleared value. -/
def regionWfAbove {α : Type} [DecidableEq α] (d : α) : Option Nat → Region α → Bool
  | _, [] => true
  | lo, (a, v) :: rest =>
    (match lo with
      | none => true
      | some b => decide (b < a)) && v != d && regionWfAbove d (some a) rest

/-- A region stands in its canonical form. -/
def regionWf {α : Type} [DecidableEq α] (d : α) (m : Region α) : Bool := regionWfAbove d none m

/-- Every region of the stacked DRAM stands in its canonical form. -/
def Dram.wf (m : Dram) : Bool :=
  m.staging.toList.all (regionWf 0) && m.darkSums.toList.all (regionWf Quad.zero) &&
    regionWf CellRecord.zero m.sky && regionWf CellRecord.zero m.ground && regionWf 0 m.output && regionWf 0 m.preview

/-- The memory of a state stands in its canonical form: the stacked DRAM and the Tile Map. -/
def State.memoryWf (s : State) : Bool := s.dram.wf && regionWf TileEntry.default s.tileMap

/-! ## Places in the regions (R106) -/

/-- The columns of a staging buffer (section 3.3): a buffer has 6,144 × 4,096 pixels. -/
def stagingColumns : Nat := 6144

/-- The index of pixel (x, y) in a staging buffer: row y, column x (R55). -/
def stagingIndex (x y : Nat) : Nat := y * stagingColumns + x

/-- The index of cell (i, j) in a plane or in a dark slot's sums, for a frame of width `w`: cells are counted in
row-major order (section 4.2). -/
def cellIndex (w i j : Nat) : Nat := j * (w / 2) + i

/-- The index of output pixel (x, y) in the output stream, for a frame of width `w` (R129). -/
def outputIndex (w x y : Nat) : Nat := y * w + x

/-- The index of preview pixel (u, v) in the preview stream, for a frame of width `w` (R135). -/
def previewIndex (w u v : Nat) : Nat := v * (w / 8) + u

/-- The index of tile (u, v), for a frame of width `w` (R103). -/
def tileIndex (w u v : Nat) : Nat := v * (w / 64) + u

/-- The number of tiles of the configured geometry (R103). -/
def SensorPort.tileCount (p : SensorPort) : Nat := (p.width / 64) * (p.height / 64)

/-- The number of tiles of the configured geometry. -/
def State.tileCount (s : State) : Nat := s.port.tileCount

end Sys2Proof.Machine
end

