-- ==== Sys2Proof/Machine/Image.lean ====
section
/-! DEFINITION. The image arithmetic of the engine: cells and their channels, calibration, windows and centroids, the
Star Finder and the Star Measurer, the rejection test and the merge of one tile, the finish and the preview of one
tile (chapters 3 to 7). -/

namespace Sys2Proof.Machine

/-! ## Cells, channels and tiles (section 4.2, R51) -/

/-- The places of R, Ga, Gb and B in a cell's quad, as column and row offsets (R51). -/
def bayerPlaces : Bayer → (Nat × Nat) × (Nat × Nat) × (Nat × Nat) × (Nat × Nat)
  | .rggb => ((0, 0), (1, 0), (0, 1), (1, 1))
  | .grbg => ((1, 0), (0, 0), (1, 1), (0, 1))
  | .gbrg => ((0, 1), (1, 1), (0, 0), (1, 0))
  | .bggr => ((1, 1), (0, 1), (1, 0), (0, 0))

/-- The four raw values of cell (i, j) of a staging buffer (R51, R55). -/
def rawQuad (b : Bayer) (m : Region Nat) (i j : Nat) : Quad :=
  let (r, ga, gb, bl) := bayerPlaces b
  let at' := fun (o : Nat × Nat) => regionRead 0 m (stagingIndex (2 * i + o.1) (2 * j + o.2))
  ⟨at' r, at' ga, at' gb, at' bl⟩

/-- The cells of tile number `t` in row-major order, for a frame of width `w` (section 4.2). -/
def tileCells (w t : Nat) : List (Nat × Nat) :=
  let u := t % (w / 64)
  let v := t / (w / 64)
  (List.range 32).flatMap fun dj => (List.range 32).map fun di => (32 * u + di, 32 * v + dj)

/-- The Tile Map entry of the tile that holds cell (i, j) (R103). -/
def cellTile (w : Nat) (tiles : Region TileEntry) (i j : Nat) : TileEntry :=
  regionRead TileEntry.default tiles (tileIndex w (i / 32) (j / 32))

/-- Channel by channel. -/
def Quad.map (f : Nat → Nat) (q : Quad) : Quad := ⟨f q.r, f q.ga, f q.gb, f q.b⟩

/-- Two quads, channel by channel. -/
def Quad.zip (f : Nat → Nat → Nat) (p q : Quad) : Quad := ⟨f p.r q.r, f p.ga q.ga, f p.gb q.gb, f p.b q.b⟩

/-- The sum of the four channels. -/
def Quad.total (q : Quad) : Nat := q.r + q.ga + q.gb + q.b

/-! ## Calibration (R101) -/

/-- What the blocks read of a light: the geometry and phase, the raw frame, the chosen slot's count and sums or the
black level, and the Tile Map. -/
structure Light where
  width : Nat
  height : Nat
  bayer : Bayer
  raw : Region Nat
  dark : Option (Nat × Region Quad)
  blackLevel : Nat
  tiles : Region TileEntry

/-- The dark value of a channel: the mean of a slot's sum over its count, rounded half up (R101). -/
def darkMean (count sum : Nat) : Nat := (sum + count / 2) / count

/-- The calibrated value of a raw value against a dark value or the black level (R101). -/
def calibrated (raw dark : Nat) : Nat := (clampInt ((raw : Int) - dark + 1024) 0 16383).toNat

/-- The four calibrated values of cell (i, j) of a light (R101). -/
def Light.cell (l : Light) (i j : Nat) : Quad :=
  let raw := rawQuad l.bayer l.raw i j
  match l.dark with
  | some (count, sums) =>
    raw.zip (fun x s => calibrated x (darkMean count s)) (regionRead Quad.zero sums (cellIndex l.width i j))
  | none => raw.map fun x => calibrated x l.blackLevel

/-- The luminance of cell (i, j) (R79). -/
def Light.luminance (l : Light) (i j : Nat) : Nat := (l.cell i j).total - 4096

/-- A cell lies inside the frame. -/
def Light.inFrame (l : Light) (i j : Int) : Bool :=
  decide (0 ≤ i) && decide (i < (l.width / 2 : Nat)) && decide (0 ≤ j) && decide (j < (l.height / 2 : Nat))

/-- The luminance of a cell, or 0 outside the frame (R80). -/
def Light.luminanceAt (l : Light) (i j : Int) : Nat :=
  if l.inFrame i j then l.luminance i.toNat j.toNat else 0

/-! ## Windows and centroids (R79) -/

/-- The whole numbers from `lo` to `hi`, both ends included. -/
def intRange (lo hi : Int) : List Int := (List.range (hi - lo + 1).toNat).map fun k => lo + k

/-- The lowest column or row of a window about pixel coordinate `p`: the least i with |2i + 1 − p| ≤ Rw. -/
def windowLow (p : Int) (rw : Nat) : Int := (p - rw) / 2

/-- The highest column or row of a window about pixel coordinate `p`. -/
def windowHigh (p : Int) (rw : Nat) : Int := (p + rw - 1) / 2

/-- The window about pixel (px, py) lies within the frame (R79). -/
def Light.windowInFrame (l : Light) (px py : Int) (rw : Nat) : Bool :=
  decide (0 ≤ px - rw) && decide (px + rw ≤ (l.width : Int) - 1) &&
    decide (0 ≤ py - rw) && decide (py + rw ≤ (l.height : Int) - 1)

/-- The cells of a window in row-major order. -/
def windowCells (px py : Int) (rw : Nat) : List (Int × Int) :=
  (intRange (windowLow py rw) (windowHigh py rw)).flatMap fun j =>
    (intRange (windowLow px rw) (windowHigh px rw)).map fun i => (i, j)

/-- A cell of the window lies on its ring (R79). -/
def onRing (px py : Int) (rw : Nat) (c : Int × Int) : Bool :=
  c.1 == windowLow px rw || c.1 == windowHigh px rw || c.2 == windowLow py rw || c.2 == windowHigh py rw

/-- The first element with the greatest key, with that key. -/
def firstGreatest {α : Type} (key : α → Nat) : List α → Option (α × Nat)
  | [] => none
  | a :: rest =>
    match firstGreatest key rest with
    | none => some (a, key a)
    | some (b, k) => if key a < k then some (b, k) else some (a, key a)

/-- The centroid of the window about pixel (px, py), if it is found (R79). -/
def Light.centroid (l : Light) (px py : Int) (rw threshold : Nat) : Option Position :=
  let cells := windowCells px py rw
  let ring := cells.filter (onRing px py rw)
  let background := (ring.map fun c => l.luminanceAt c.1 c.2).sum / ring.length
  let weighted := cells.map fun c => (c, l.luminanceAt c.1 c.2 - background - threshold)
  let total : Nat := (weighted.map fun cw => cw.2).sum
  if total = 0 then none
  else
    match firstGreatest (fun cw => cw.2) weighted with
    | none => none
    | some ((c, _), _) =>
      if onRing px py rw c then none
      else
        some (roundDiv (weighted.map fun cw => (cw.2 : Int) * (32 * cw.1.1 + 16)).sum total,
          roundDiv (weighted.map fun cw => (cw.2 : Int) * (32 * cw.1.2 + 16)).sum total)

/-! ## The Star Finder (R80, R81) -/

/-- A candidate cell with its flux (R80). -/
structure Candidate where
  i : Nat
  j : Nat
  flux : Nat
  deriving DecidableEq, Repr

/-- Cell (i, j) is a candidate: in a SKY tile, at least as bright as the threshold, brighter than the neighbours
before it and at least as bright as the neighbours after it (R80). -/
def Light.isCandidate (l : Light) (threshold i j : Nat) : Bool :=
  let here := l.luminance i j
  let above := fun (di dj : Int) => !l.inFrame (i + di) (j + dj) || decide (l.luminanceAt (i + di) (j + dj) < here)
  let atLeast := fun (di dj : Int) => !l.inFrame (i + di) (j + dj) || decide (l.luminanceAt (i + di) (j + dj) ≤ here)
  (cellTile l.width l.tiles i j).tileClass == .sky && decide (threshold ≤ here) &&
    above (-1) (-1) && above 0 (-1) && above 1 (-1) && above (-1) 0 &&
    atLeast 1 0 && atLeast (-1) 1 && atLeast 0 1 && atLeast 1 1

/-- The flux of a candidate: the sum of the luminance over the 5 × 5 cells centred on it (R80). -/
def Light.flux (l : Light) (i j : Nat) : Nat :=
  ((intRange (-2) 2).flatMap fun dj => (intRange (-2) 2).map fun di => l.luminanceAt (i + di) (j + dj)).sum

/-- A candidate put behind every one that is at least as bright. -/
def insertByFlux (c : Candidate) : List Candidate → List Candidate
  | [] => [c]
  | d :: ds => if d.flux < c.flux then c :: d :: ds else d :: insertByFlux c ds

/-- The candidates of a light, highest flux first, equal fluxes by row and then by column (R80). -/
def Light.candidates (l : Light) (threshold : Nat) : List Candidate :=
  let found := (List.range (l.height / 2)).flatMap fun j =>
    (List.range (l.width / 2)).filterMap fun i =>
      if l.isCandidate threshold i j then some ⟨i, j, l.flux i j⟩ else none
  found.foldl (fun sorted c => insertByFlux c sorted) []

/-- A star that a run takes: its reference position, flux and centroid (R81). -/
structure TakenStar where
  ref : Position
  flux : Nat
  pos : Position
  deriving DecidableEq, Repr

/-- A candidate lies far enough from each edge of the frame (R81 step 1). -/
def Light.clearOfEdges (l : Light) (rw : Nat) (c : Candidate) : Bool :=
  let room := 16 * (rw + 2)
  decide (room ≤ 32 * c.i + 16) && decide (32 * c.i + 16 + room ≤ 16 * l.width) &&
    decide (room ≤ 32 * c.j + 16) && decide (32 * c.j + 16 + room ≤ 16 * l.height)

/-- Two reference positions lie at least 512 sixteenths apart in Chebyshev distance (R81 step 4). -/
def separated (p q : Position) : Bool :=
  decide (512 ≤ max (p.1 - q.1).natAbs (p.2 - q.2).natAbs)

/-- The judgement of one candidate by the steps of R81, against the reference positions already held. -/
def Light.judgeCandidate (l : Light) (rw threshold : Nat) (refOf : Position → Position) (held : List Position)
    (c : Candidate) : Option TakenStar :=
  if !l.clearOfEdges rw c then none
  else
    match l.centroid (2 * c.i + 1) (2 * c.j + 1) rw threshold with
    | none => none
    | some pos => if held.all (separated (refOf pos)) then some ⟨refOf pos, c.flux, pos⟩ else none

/-- The reference positions held once a star is taken into an entry: that of the LOST entry it overwrites, if any, is
given up, and its own is held from then on (R81 step 5, R83). -/
def heldAfter (held : List Position) (givenUp : Option Position) (ref : Position) : List Position :=
  (match givenUp with
    | none => held
    | some old => held.erase old) ++ [ref]

/-- The stars a run takes, in order, until the entries it may fill or the candidates run out (R81). Each such entry is
given as the reference position it gives up, none for a VACANT one. -/
def Light.takeStars (l : Light) (rw threshold : Nat) (refOf : Position → Position) :
    List (Option Position) → List Position → List Candidate → List TakenStar
  | _, _, [] => []
  | [], _, _ => []
  | e :: es, held, c :: cs =>
    match l.judgeCandidate rw threshold refOf held c with
    | none => l.takeStars rw threshold refOf (e :: es) held cs
    | some t => t :: l.takeStars rw threshold refOf es (heldAfter held e t.ref) cs

/-- The entry a taken star is written as (R81 step 5), with the last residual its mode gives. -/
def TakenStar.entry (t : TakenStar) (sub : Nat) (residual : Option (Int × Int)) : Star :=
  ⟨.locked, t.ref.1, t.ref.2, t.flux, some t.pos, residual, 0, sub⟩

/-! ## The Star Measurer (R84, R85) -/

/-- The predicted position of an entry: the transform with the pose translation alone (R84 step 2). -/
def Light.predict (l : Light) (pose : Transform) (st : Star) : Position :=
  pose.apply l.width l.height (st.refX, st.refY)

/-- An entry that is not VACANT is searched in this light (R84 step 3). -/
def Light.searchable (l : Light) (rw : Nat) (p : Position) : Bool :=
  let px := p.1 / 16
  let py := p.2 / 16
  l.windowInFrame px py rw &&
    (regionRead TileEntry.default l.tiles (tileIndex l.width (px / 64).toNat (py / 64).toNat)).tileClass != .ground

/-- The residual of an entry in this light, with its centroid, if the entry is searched and found (R84 step 4). -/
def Light.findStar (l : Light) (pose : Transform) (rw threshold : Nat) (st : Star) : Option (Position × Position) :=
  let p := l.predict pose st
  if st.state != .vacant && l.searchable rw p then
    (l.centroid (p.1 / 16) (p.2 / 16) rw threshold).map fun c => (c, (c.1 - p.1, c.2 - p.2))
  else none

/-- An entry after the Star Measurer's search (R84, R85). -/
def Light.measureStar (l : Light) (pose : Transform) (rw threshold sub : Nat) (st : Star) : Star :=
  if st.state == .vacant then st
  else if !l.searchable rw (l.predict pose st) then { st with state := .hidden }
  else
    match l.findStar pose rw threshold st with
    | some (c, e) =>
      { st with state := .locked, missCount := 0, lastPos := some c, lastResidual := some e, lastFound := sub }
    | none =>
      { st with state := if st.missCount + 1 ≤ 2 then .missing else .lost, missCount := saturate 255 (st.missCount + 1) }

/-! ## The residual (R86) -/

/-- A value put into an ascending list. -/
def insertAscending (x : Int) : List Int → List Int
  | [] => [x]
  | y :: ys => if x ≤ y then x :: y :: ys else y :: insertAscending x ys

/-- A list in ascending order. -/
def ascending (l : List Int) : List Int := l.foldr insertAscending []

/-- The mean of the values left when a quarter is removed at each end, rounded half away from zero (R86). -/
def trimmedMean (l : List Int) : Int :=
  let m := l.length
  let kept := ((ascending l).drop (m / 4)).take (m - 2 * (m / 4))
  roundDiv kept.sum kept.length

/-! ## The rejection test and the merge (R114 to R119) -/

/-- One channel of a contribution fails the rejection test (R118); the terms are exact. -/
def channelFails (k nMin v0 n : Nat) (sum square x : Nat) : Bool :=
  let rise : Int := (n : Int) * x - sum
  decide (nMin ≤ n) && decide (0 < rise) &&
    decide ((k : Int) ^ 2 * max ((n : Int) * square - (sum : Int) ^ 2) ((n : Int) ^ 2 * v0) < rise ^ 2 * 256)

/-- A contribution is dropped: any one of its four channels fails (R118). -/
def rejects (plan : Plan) (rec : CellRecord) (x : Quad) : Bool :=
  let fails := channelFails plan.rejectK plan.rejectMin plan.floorVariance rec.count
  fails rec.sum.r rec.square.r x.r || fails rec.sum.ga rec.square.ga x.ga ||
    fails rec.sum.gb rec.square.gb x.gb || fails rec.sum.b rec.square.b x.b

/-- A cell record with an accepted contribution added (R119). -/
def CellRecord.accept (rec : CellRecord) (x : Quad) : CellRecord :=
  ⟨rec.sum.zip (· + ·) x, rec.square.zip (fun q v => q + v ^ 2) x, rec.count + 1⟩

/-- What the merge of a tile carries from cell to cell: the planes and the light's counts. -/
structure MergeAcc where
  sky : Region CellRecord
  ground : Region CellRecord
  mergedSky : Nat
  mergedGround : Nat
  rejected : Nat
  deriving DecidableEq, Repr

/-- A contribution meant for the ground plane's record at `index`, judged and applied (R118, R119). -/
def MergeAcc.addGround (plan : Plan) (index : Nat) (x : Quad) (acc : MergeAcc) : MergeAcc :=
  let rec' := regionRead CellRecord.zero acc.ground index
  if rejects plan rec' x then { acc with rejected := acc.rejected + 1 }
  else { acc with
    ground := regionWrite CellRecord.zero acc.ground index (rec'.accept x), mergedGround := acc.mergedGround + 1 }

/-- A contribution meant for the sky plane's record at `index`, judged and applied (R118, R119). -/
def MergeAcc.addSky (plan : Plan) (index : Nat) (x : Quad) (acc : MergeAcc) : MergeAcc :=
  let rec' := regionRead CellRecord.zero acc.sky index
  if rejects plan rec' x then { acc with rejected := acc.rejected + 1 }
  else { acc with
    sky := regionWrite CellRecord.zero acc.sky index (rec'.accept x), mergedSky := acc.mergedSky + 1 }

/-- The light's ground contribution for cell (i, j): its own values there, in a GROUND or BLEND tile (R116). -/
def Light.groundContribution (l : Light) (i j : Nat) : Option Quad :=
  if (cellTile l.width l.tiles i j).tileClass == .sky then none else some (l.cell i j)

/-- The light's sky contribution for cell (i, j) under its merge transform, if it forms one (R117). -/
def Light.skyContribution (l : Light) (t : Transform) (i j : Nat) : Option Quad :=
  if (cellTile l.width l.tiles i j).tileClass == .ground then none
  else
    let s := t.apply l.width l.height (32 * i + 16, 32 * j + 16)
    let i' := s.1 / 32
    let j' := s.2 / 32
    if !l.inFrame i' j' then none
    else if (cellTile l.width l.tiles i'.toNat j'.toNat).tileClass == .ground then none
    else some (l.cell i'.toNat j'.toNat)

/-- One cell of the merge: its ground contribution and, for a sky-eligible light, its sky contribution (R114, R115). -/
def Light.mergeCell (l : Light) (plan : Plan) (sky : Option Transform) (acc : MergeAcc) (c : Nat × Nat) : MergeAcc :=
  let index := cellIndex l.width c.1 c.2
  let acc := match l.groundContribution c.1 c.2 with
    | some x => acc.addGround plan index x
    | none => acc
  match sky.bind fun t => l.skyContribution t c.1 c.2 with
  | some x => acc.addSky plan index x
  | none => acc

/-- The merge of tile number `t` of a light (R114). -/
def Light.mergeTile (l : Light) (plan : Plan) (sky : Option Transform) (t : Nat) (acc : MergeAcc) : MergeAcc :=
  (tileCells l.width t).foldl (l.mergeCell plan sky) acc

/-- Tile number `t` of both planes cleared (R113). -/
def clearTile (w t : Nat) (m : Region CellRecord) : Region CellRecord :=
  (tileCells w t).foldl (fun m c => regionWrite CellRecord.zero m (cellIndex w c.1 c.2) CellRecord.zero) m

/-- Tile number `t` of a dark merged into a slot's sums: added, or written for a slot taken EMPTY or by
replacement (R95). -/
def darkMergeTile (w : Nat) (b : Bayer) (raw : Region Nat) (fresh : Bool) (t : Nat) (m : Region Quad) : Region Quad :=
  (tileCells w t).foldl
    (fun m c =>
      let x := rawQuad b raw c.1 c.2
      let index := cellIndex w c.1 c.2
      regionWrite Quad.zero m index (if fresh then x else (regionRead Quad.zero m index).zip (· + ·) x)) m

/-! ## The finish and the preview (R126, R127, R135) -/

/-- A plane's own value of a channel of a cell with count n above 0 (R126). -/
def planeValue (n sum : Nat) : Nat := (roundDiv (4 * sum) n).toNat

/-- The values v_sky and v_ground of a channel of a cell (R126). -/
def channelValues (skyCount skySum groundCount groundSum : Nat) : Nat × Nat :=
  match decide (0 < skyCount), decide (0 < groundCount) with
  | true, true => (planeValue skyCount skySum, planeValue groundCount groundSum)
  | false, true => (planeValue groundCount groundSum, planeValue groundCount groundSum)
  | true, false => (planeValue skyCount skySum, planeValue skyCount skySum)
  | false, false => (4096, 4096)

/-- The composite value of a channel (R127). -/
def composite (e : TileEntry) (v : Nat × Nat) : Nat :=
  match e.tileClass with
  | .sky => v.1
  | .ground => v.2
  | .blend => (roundDiv (e.weight * v.1 + (16 - e.weight : Int) * v.2) 16).toNat

/-- The four composites of a cell from its two records and its tile's entry (R126, R127). -/
def cellComposite (e : TileEntry) (sky ground : CellRecord) : Quad :=
  let one := fun (a b : Nat) => composite e (channelValues sky.count a ground.count b)
  sky.sum.zip one ground.sum

/-- The output value of a composite (R127). -/
def outputValue (pedestal comp : Nat) : Nat := (clampInt ((comp : Int) - 4096 + pedestal) 0 65535).toNat

/-- What the finish and the preview read: the planes, the Tile Map and the geometry. -/
structure Planes where
  width : Nat
  bayer : Bayer
  tiles : Region TileEntry
  sky : Region CellRecord
  ground : Region CellRecord

/-- The four composites of cell (i, j) (R126, R127). -/
def Planes.compositeAt (p : Planes) (i j : Nat) : Quad :=
  let index := cellIndex p.width i j
  cellComposite (cellTile p.width p.tiles i j) (regionRead CellRecord.zero p.sky index)
    (regionRead CellRecord.zero p.ground index)

/-- One cell of the finish: the four output values, each written to the pixel of the cell that carries its channel
(R128). -/
def Planes.finishCell (p : Planes) (pedestal : Nat) (out : Region Nat) (c : Nat × Nat) : Region Nat :=
  let v := (p.compositeAt c.1 c.2).map (outputValue pedestal)
  let (r, ga, gb, b) := bayerPlaces p.bayer
  let place := fun (o : Nat × Nat) => outputIndex p.width (2 * c.1 + o.1) (2 * c.2 + o.2)
  regionWrite 0 (regionWrite 0 (regionWrite 0 (regionWrite 0 out (place r) v.r) (place ga) v.ga) (place gb) v.gb)
    (place b) v.b

/-- Tile number `t` of the finish (R128). -/
def Planes.finishTile (p : Planes) (pedestal t : Nat) (out : Region Nat) : Region Nat :=
  (tileCells p.width t).foldl (p.finishCell pedestal) out

/-- The value of preview pixel (u, v) (R135). -/
def Planes.previewValue (p : Planes) (pedestal u v : Nat) : Nat :=
  let cells := (List.range 4).flatMap fun dj => (List.range 4).map fun di => (4 * u + di, 4 * v + dj)
  let a : Int := (cells.map fun c => ((p.compositeAt c.1 c.2).total : Int) + 4 * ((pedestal : Int) - 4096)).sum
  (clampInt (roundDiv a 64) 0 65535).toNat

/-- Tile number `t` of the preview: its 8 × 8 preview pixels (R134). -/
def Planes.previewTile (p : Planes) (pedestal t : Nat) (out : Region Nat) : Region Nat :=
  let u := t % (p.width / 64)
  let v := t / (p.width / 64)
  ((List.range 8).flatMap fun dv => (List.range 8).map fun du => (8 * u + du, 8 * v + dv)).foldl
    (fun out c => regionWrite 0 out (previewIndex p.width c.1 c.2) (p.previewValue pedestal c.1 c.2)) out

/-! ## The streams (R129, R135) -/

/-- The byte of a stream of 16-bit values at an offset, low byte first. -/
def streamByte (m : Region Nat) (offset : Nat) : Byte :=
  let v := regionRead 0 m (offset / 2)
  BitVec.ofNat 8 (if offset % 2 = 0 then v else v / 256)

/-- The bytes of a stream from an offset on. -/
def streamBytes (m : Region Nat) (offset count : Nat) : List Byte :=
  (List.range count).map fun k => streamByte m (offset + k)

end Sys2Proof.Machine
end

