-- ==== Sys2Proof/Config.lean ====
section
/-! DEFINITION. The values the manual leaves open, as constants with no body: no proof can see what they are. -/

namespace Sys2Proof

/-- The byte a response carries at a place whose field "has no meaning": a field of a VACANT guide star entry (R76)
or of an EMPTY dark slot (R90). The first argument is the model's counter of such responses, so that two responses
need not agree; the second is the entry's index, the third the byte's place in the entry. Assumption 2. -/
opaque Config.noMeaningByte : Nat → Nat → Nat → Byte

/-- The value extrapolated from two pose history entries whose mid-times are the same clock value, from the newer
value and the difference of the values. R74 says that this interval is at least 1 and gives no value for 0.
Assumption 3. -/
opaque Config.predictionOverNoInterval : Int → Int → Int

/-- The bytes that carry a 16-bit session total that has passed 65,535 (R26, R176): the manual says that no session
reaches such a total and states no byte for it. The argument is the total. Assumption 4. -/
opaque Config.totalPastItsWidth : Nat → BitVec 16

/-- The bytes that carry a 48-bit session total that has passed 2^48 − 1 (R26, R176). Assumption 4. -/
opaque Config.longTotalPastItsWidth : Nat → BitVec 48

end Sys2Proof
end

