-- ==== Sys2Proof/Machine/Update.lean ====
section
/-! DEFINITION. One update for each component of the state. Every change of the state is a composition of these, so
that the laws of Sys2Proof/Laws/State.lean say what each change leaves alone. -/

namespace Sys2Proof.Machine

/-- Change the Session Controller's items. -/
def State.onSession (s : State) (f : Session → Session) : State := { s with session := f s.session }

/-- Change the Exposure Sequencer's items. -/
def State.onSeq (s : State) (f : Sequencer → Sequencer) : State := { s with seq := f s.seq }

/-- Change the Sensor Port's items. -/
def State.onPort (s : State) (f : SensorPort → SensorPort) : State := { s with port := f s.port }

/-- Change the Sub Ring. -/
def State.onRing (s : State) (f : Ring → Ring) : State := { s with ring := f s.ring }

/-- Change the Guidance Unit's items. -/
def State.onGuidance (s : State) (f : Guidance → Guidance) : State := { s with guidance := f s.guidance }

/-- Change the Dark Library's items. -/
def State.onDarks (s : State) (f : DarkLibrary → DarkLibrary) : State := { s with darks := f s.darks }

/-- Change the Tile Map. -/
def State.onTileMap (s : State) (f : Region TileEntry → Region TileEntry) : State := { s with tileMap := f s.tileMap }

/-- Change the engine's items. -/
def State.onEngine (s : State) (f : Engine → Engine) : State := { s with engine := f s.engine }

/-- Change the result state. -/
def State.onResults (s : State) (f : Results → Results) : State := { s with results := f s.results }

/-- Change the Power Controller's items. -/
def State.onPower (s : State) (f : Power → Power) : State := { s with power := f s.power }

/-- Change the P-link's items. -/
def State.onPLink (s : State) (f : LinkState → LinkState) : State := { s with pLink := f s.pLink }

/-- Change the S-link's items. -/
def State.onSLink (s : State) (f : LinkState → LinkState) : State := { s with sLink := f s.sLink }

/-- Change the lines. -/
def State.onLines (s : State) (f : Lines → Lines) : State := { s with lines := f s.lines }

/-- Change the stacked DRAM. -/
def State.onDram (s : State) (f : Dram → Dram) : State := { s with dram := f s.dram }

/-- Change the model's counter of free bytes. -/
def State.onFree (s : State) (f : Nat → Nat) : State := { s with free := f s.free }

/-- Change the queue of commands. -/
def State.onPending (s : State) (f : List Instr → List Instr) : State := { s with pending := f s.pending }

end Sys2Proof.Machine
end

