-- ==== Sys2Proof/Machine/Flags.lean ====
section
/-! DEFINITION. The event flags: the fifteen events, the pending and enable sets, the attention lines and the lead
event (section 9.3). -/

namespace Sys2Proof.Machine

/-- The events, in the order of their numbers (R159). -/
inductive Event where
  | sessionState | planSwitched | finishDone | previewDone
  | subOpened | subRetired | subSkipped | shutterFault
  | referenceSet | driftReady | starCountLow | poseLate
  | powerState | powerRefused | holdChanged
  deriving DecidableEq, Repr

/-- An event's number (R159). -/
def eventNumber : Event → Nat
  | .sessionState => 0 | .planSwitched => 1 | .finishDone => 2 | .previewDone => 3
  | .subOpened => 4 | .subRetired => 5 | .subSkipped => 6 | .shutterFault => 7
  | .referenceSet => 8 | .driftReady => 9 | .starCountLow => 10 | .poseLate => 11
  | .powerState => 12 | .powerRefused => 13 | .holdChanged => 14

/-- An event's bit in an event set (R179). -/
def eventBit (e : Event) : BitVec 16 := BitVec.ofNat 16 (2 ^ eventNumber e)

/-- The numbers of a group's events, lowest first (R159). -/
def groupNumbers : EventGroup → List Nat
  | .session => [0, 1, 2, 3]
  | .subs => [4, 5, 6, 7]
  | .guidance => [8, 9, 10, 11]
  | .power => [12, 13, 14]

/-- The events of a link that are both pending and enabled. -/
def LinkState.live (l : LinkState) : BitVec 16 := l.pendingSet &&& l.enableSet

/-- The level a link's attention line must have: asserted exactly when an enabled event is pending (R160). -/
def LinkState.attentionLevel (l : LinkState) : Bool := l.live != 0#16

/-- The line judged anew at a change of the pending or the enable set (R160). -/
def LinkState.judged (l : LinkState) : LinkState := { l with attention := l.attentionLevel }

/-- An event enters a link's pending set, where it stands at most once (R159). -/
def LinkState.raised (e : Event) (l : LinkState) : LinkState :=
  LinkState.judged { l with pendingSet := l.pendingSet ||| eventBit e }

/-- Events leave a link's pending set (R163). -/
def LinkState.acknowledged (events : BitVec 16) (l : LinkState) : LinkState :=
  LinkState.judged { l with pendingSet := l.pendingSet &&& ~~~events }

/-- A link's enable set replaced (R164). -/
def LinkState.enabled (events : BitVec 16) (l : LinkState) : LinkState :=
  LinkState.judged { l with enableSet := events }

/-- The lead event's number: the groups are taken in the link's order, and the first that holds a live event gives
its lowest-numbered one (R161). -/
def LinkState.lead (l : LinkState) : Option Nat :=
  (l.order.flatMap groupNumbers).find? fun n => l.live.getLsbD n

/-- A block raises an event: it enters the pending set of both links (R159). -/
def raise (e : Event) (s : State) : State :=
  (s.onPLink (LinkState.raised e)).onSLink (LinkState.raised e)

end Sys2Proof.Machine
end

