-- ==== Sys2Proof/Machine/Operands.lean ====
section
/-! DEFINITION. The operand forms of the links: how a request's fields are read from its bytes and how values are
written into a record (sections 10.1 and 10.3), with the code of every enumeration (R169). -/

namespace Sys2Proof.Machine

/-! ## Fields of a request (R167): offsets are counted from the request code at offset 0 -/

/-- The number of bytes of the request, the request code among them. -/
def byteCount (p : SelectPeriod) : Nat := p.bytes.length + 1

/-- The request tag; 00h if the select period carries the request code alone (R154). -/
def tagOf (p : SelectPeriod) : Byte := p.bytes.getD 0 0

/-- The u8 at an offset. -/
def fieldU8 (p : SelectPeriod) (offset : Nat) : Nat := (p.bytes.getD (offset - 1) 0).toNat

/-- The u16 at an offset, little-endian (section 4.4). -/
def fieldU16 (p : SelectPeriod) (offset : Nat) : Nat := fieldU8 p offset + 256 * fieldU8 p (offset + 1)

/-- The u24 at an offset. -/
def fieldU24 (p : SelectPeriod) (offset : Nat) : Nat := fieldU16 p offset + 65536 * fieldU8 p (offset + 2)

/-- The u32 at an offset. -/
def fieldU32 (p : SelectPeriod) (offset : Nat) : Nat := fieldU16 p offset + 65536 * fieldU16 p (offset + 2)

/-- The s24 at an offset, in two's complement (chapter 10). -/
def fieldS24 (p : SelectPeriod) (offset : Nat) : Int := (BitVec.ofNat 24 (fieldU24 p offset)).toInt

/-- The event set at an offset: bit 15 is ignored (R179). -/
def fieldEvents (p : SelectPeriod) (offset : Nat) : BitVec 16 := BitVec.ofNat 16 (fieldU16 p offset) &&& 0x7fff#16

/-! ## Fields of a record (R169) -/

/-- A u8. -/
def u8 (n : Nat) : List Byte := [BitVec.ofNat 8 n]

/-- The low bytes of a number, the lowest first. -/
def littleEndian : Nat → Nat → List Byte
  | 0, _ => []
  | k + 1, n => BitVec.ofNat 8 n :: littleEndian k (n / 256)

/-- A u16. -/
def u16 (n : Nat) : List Byte := littleEndian 2 n

/-- A u32. -/
def u32 (n : Nat) : List Byte := littleEndian 4 n

/-- A u48. -/
def u48 (n : Nat) : List Byte := littleEndian 6 n

/-- An s16, in two's complement. -/
def s16 (i : Int) : List Byte := littleEndian 2 (BitVec.ofInt 16 i).toNat

/-- An s24, in two's complement. -/
def s24 (i : Int) : List Byte := littleEndian 3 (BitVec.ofInt 24 i).toNat

/-- An s32, in two's complement. -/
def s32 (i : Int) : List Byte := littleEndian 4 (BitVec.ofInt 32 i).toNat

/-- A clock value. -/
def u32Clock (c : Clock) : List Byte := u32 c.toNat

/-- A yes-or-no value: 0 or 1. -/
def flag (b : Bool) : List Byte := u8 (if b then 1 else 0)

/-- An enumerated or index field that may be absent: FFh when it is (R169). -/
def codeOrFf (o : Option Nat) : List Byte := u8 (o.getD 0xff)

/-- Any other field that may be absent: a presence byte, then the field, its bytes zero while absent (R169). -/
def presence {α : Type} (width : Nat) (enc : α → List Byte) : Option α → List Byte
  | none => List.replicate (width + 1) 0
  | some a => 1 :: enc a

/-- A list: a u8 count and the entries (R169). -/
def counted {α : Type} (enc : α → List Byte) (l : List α) : List Byte := u8 l.length ++ l.flatMap enc

/-- A pair of residuals, s16 each. -/
def s16Pair (r : Int × Int) : List Byte := s16 r.1 ++ s16 r.2

/-- A pair of positions, s32 each. -/
def s32Pair (r : Int × Int) : List Byte := s32 r.1 ++ s32 r.2

/-! ## Codes of the enumerations: the place in the list where the owning rule first names the values (R169) -/

/-- Session state (R1). -/
def sessionStateCode : SessionState → Nat
  | .idle => 0 | .arming => 1 | .armed => 2 | .referencing => 3 | .integrating => 4 | .paused => 5 | .draining => 6
  | .finishing => 7 | .finished => 8 | .lost => 9

/-- Pause cause (R1). -/
def pauseCauseCode : PauseCause → Nat
  | .request => 0 | .remote => 1 | .moved => 2 | .starless => 3 | .sensor => 4 | .shutter => 5 | .hold => 6

/-- Trigger mode (R19). -/
def triggerModeCode : TriggerMode → Nat
  | .timed => 0 | .single => 1 | .remoteEdge => 2 | .remoteGate => 3

/-- The trigger mode a code names, if any. -/
def triggerModeNamed : Nat → Option TriggerMode
  | 0 => some .timed | 1 => some .single | 2 => some .remoteEdge | 3 => some .remoteGate | _ => none

/-- A yes-or-no value a code names, if any: 0 or 1 (R169). -/
def boolNamed : Nat → Option Bool
  | 0 => some false | 1 => some true | _ => none

/-- Exposure phase (R27). -/
def phaseCode : Phase → Nat
  | .idle => 0 | .waitStart => 1 | .waitShutter => 2 | .exposing => 3 | .waitOpen => 4

/-- Kind of a sub (R172). -/
def kindCode : SubKind → Nat
  | .light => 0 | .dark => 1

/-- Last shutter fault (R27). -/
def shutterFaultCode : ShutterFault → Nat
  | .closeTimeout => 0 | .openTimeout => 1

/-- Bayer phase (R48, R178). -/
def bayerCode : Bayer → Nat
  | .rggb => 0 | .grbg => 1 | .gbrg => 2 | .bggr => 3

/-- The Bayer phase a code names, if any. -/
def bayerNamed : Nat → Option Bayer
  | 0 => some .rggb | 1 => some .grbg | 2 => some .gbrg | 3 => some .bggr | _ => none

/-- Lane sync (R48). -/
def laneSyncCode : LaneSync → Nat
  | .synced => 0 | .awaitingFrameStart => 1

/-- Reception state (R48). -/
def receptionCode : Reception → Nat
  | .idle => 0 | .discarding => 1 | .receiving _ => 2

/-- The sub number a RECEIVING state carries. -/
def receptionSub : Reception → Option Nat
  | .receiving n => some n
  | _ => none

/-- Last frame result (R48). -/
def frameResultCode : FrameResult → Nat
  | .passed => 0 | .failedShape => 1 | .failedTruncated => 2 | .failedTimeout => 3

/-- Descriptor state (R59). -/
def descStateCode : DescState → Nat
  | .free => 0 | .exposing => 1 | .reading => 2 | .waiting => 3 | .measuring => 4 | .merging => 5 | .retired => 6

/-- Quality (R171). -/
def qualityCode : Quality → Nat
  | .steady => 0 | .shaken => 1 | .moved => 2

/-- The quality a code names, if any. -/
def qualityNamed : Nat → Option Quality
  | 0 => some .steady | 1 => some .shaken | 2 => some .moved | _ => none

/-- Pose form (R169). -/
def poseFormCode : Pose → Nat
  | .absent => 0 | .reported _ _ _ _ => 1 | .predicted _ _ _ => 2

/-- Calibration used (R59). -/
def calibrationCode : Calibration → Nat
  | .exact => 0 | .neighbour => 1 | .blackLevel => 2

/-- Outcome (R169). -/
def outcomeCode : SubOutcome → Nat
  | .merged => 0 | .groundOnly _ => 1 | .rejected _ => 2 | .partialMerge => 3 | .darkMerged => 4 | .darkDiscarded _ => 5

/-- Outcome cause (R169); none where the outcome has no cause. -/
def causeCode : SubOutcome → Option Nat
  | .groundOnly .noStars => some 0
  | .groundOnly .drift => some 1
  | .groundOnly .referenceFailed => some 2
  | .rejected .shake => some 3
  | .rejected .moved => some 4
  | .rejected .geometry => some 5
  | .rejected .paused => some 6
  | .rejected .abandoned => some 7
  | .darkDiscarded .noSlot => some 8
  | .darkDiscarded .slotFull => some 9
  | .merged => none
  | .partialMerge => none
  | .darkMerged => none

/-- Star state (R76). -/
def starStateCode : StarState → Nat
  | .vacant => 0 | .locked => 1 | .missing => 2 | .lost => 3 | .hidden => 4

/-- Pose source in the drift record (R169). -/
def poseSourceCode : PoseSource → Nat
  | .reported => 0 | .predicted => 1 | .reference => 2

/-- Drift result (R169). -/
def driftResultCode : DriftResult → Nat
  | .applied => 0 | .exceeded => 1 | .tooFew => 2

/-- Dark slot state (R90). -/
def slotStateCode : SlotState → Nat
  | .empty => 0 | .building => 1 | .ready => 2

/-- Tile class (R169). -/
def tileClassCode : TileClass → Nat
  | .sky => 0 | .ground => 1 | .blend => 2

/-- The tile class a code names, if any. -/
def tileClassNamed : Nat → Option TileClass
  | 0 => some .sky | 1 => some .ground | 2 => some .blend | _ => none

/-- Current job (R109). -/
def jobCode : Job → Nat
  | .none => 0 | .planeClear => 1 | .descriptor _ => 2 | .preview => 3 | .finish => 4

/-- Stop request (R109). -/
def stopCode : StopRequest → Nat
  | .none => 0 | .hold => 1 | .close => 2

/-- Last preview end (R125). -/
def previewEndCode : PreviewEnd → Nat
  | .completed => 0 | .droppedHold => 1 | .droppedClose => 2

/-- Power state (R138). -/
def powerStateCode : PowerState → Nat
  | .active => 0 | .doze => 1 | .hold => 2 | .standby => 3

/-- Memory state (R138). -/
def memoryStateCode : MemoryState → Nat
  | .active => 0 | .selfRefresh => 1 | .off => 2

/-- Last wake cause (R138). -/
def wakeCauseCode : WakeCause → Nat
  | .remote => 0 | .pLink => 1 | .sLink => 2 | .alarm => 3 | .supplyReturn => 4

/-- Last refusal cause (R138). -/
def refusalCauseCode : RefusalCause → Nat
  | .notIdle => 0 | .stayAwake => 1 | .woken => 2 | .busyChanging => 3

/-- Outcome code of a response (R168). -/
def reqOutcomeCode : ReqOutcome → Nat
  | .done => 0x00 | .doneClamped => 0x01 | .accepted => 0x02 | .refusedState => 0x10 | .refusedLink => 0x11
  | .refusedRange => 0x12 | .busy => 0x13 | .stale => 0x14 | .held => 0x15 | .unknown => 0x1f

/-- Link (R166). -/
def linkCode : Link → Nat
  | .p => 0 | .s => 1

/-- Event group (R179). -/
def groupCode : EventGroup → Nat
  | .session => 0 | .subs => 1 | .guidance => 2 | .power => 3

/-- The event group a code names, if any. -/
def groupNamed : Nat → Option EventGroup
  | 0 => some .session | 1 => some .subs | 2 => some .guidance | 3 => some .power | _ => none

end Sys2Proof.Machine
end

