-- ==== Sys2Proof/Machine/Ops.lean ====
section
/-! DEFINITION. The shared operations of the Session Controller, the Exposure Sequencer, the Sub Ring and the Power
Controller: what several commands do is written here once, each under the rule that owns it. -/

namespace Sys2Proof.Machine

/-! ## Reading the state -/

/-- The session is in a running state (section 1.4). -/
def State.running (s : State) : Bool := s.session.state == .referencing || s.session.state == .integrating

/-- The session is IDLE or LOST. -/
def State.idleOrLost (s : State) : Bool := s.session.state == .idle || s.session.state == .lost

/-- The active plan (R1). -/
def State.plan (s : State) : Plan := s.session.plans[s.session.activePlan]

/-- The active plan's trigger mode, read at each moment the sequencer needs it (section 2.4). -/
def State.mode (s : State) : TriggerMode := s.plan.triggerMode

/-- The present Session Clock. -/
def State.now (s : State) : Clock := s.seq.clock

/-- The items of a link. -/
def State.link (s : State) : Link → LinkState
  | .p => s.pLink
  | .s => s.sLink

/-- Change the items of a link. -/
def State.onLink (s : State) (l : Link) (f : LinkState → LinkState) : State :=
  match l with
  | .p => s.onPLink f
  | .s => s.onSLink f

/-! ## The Sub Ring (R59 to R61) -/

/-- The first descriptor that satisfies a test, by index. -/
def Ring.first (r : Ring) (test : Descriptor → Bool) : Option (Fin 6) :=
  (List.finRange 6).find? fun i => test r.desc[i]

/-- The READING descriptor, if any (R60: at most one). -/
def State.reading (s : State) : Option (Fin 6) := s.ring.first fun d => d.state == .reading

/-- The descriptor that is not FREE and carries a sub number, if any (R66, R72). -/
def Ring.carrying (r : Ring) (sub : Nat) : Option (Fin 6) := r.first fun d => d.state != .free && d.sub == sub

/-- A descriptor is in flight: neither FREE nor RETIRED (R13). -/
def Descriptor.inFlight (d : Descriptor) : Bool := d.state != .free && d.state != .retired

/-- Every descriptor is FREE or RETIRED (R13). -/
def Ring.drained (r : Ring) : Bool := (r.first Descriptor.inFlight).isNone

/-- The number of descriptors WAITING (R124). -/
def Ring.waitingCount (r : Ring) : Nat := ((List.finRange 6).filter fun i => r.desc[i].state == .waiting).length

/-- Of the indexes to which a key is given, the one with the lowest key, the lowest index first. -/
def leastIndex (key : Fin 6 → Option Nat) : Option (Fin 6) :=
  (List.finRange 6).foldl
    (fun best i =>
      match key i, best with
      | none, _ => best
      | some _, none => some i
      | some k, some b => if (key b).any (k < ·) then some i else best) none

/-- The descriptor an opening takes: of the FREE and RETIRED ones the lowest sub number, a FREE one counting as 0
(R61). -/
def Ring.openingChoice (r : Ring) : Option (Fin 6) :=
  leastIndex fun i =>
    match r.desc[i].state with
    | .free => some 0
    | .retired => some r.desc[i].sub
    | _ => none

/-- The WAITING descriptor with the lowest sub number (R63). -/
def Ring.nextWaiting (r : Ring) : Option (Fin 6) :=
  leastIndex fun i => if r.desc[i].state == .waiting then some r.desc[i].sub else none

/-- Change one descriptor. -/
def State.onDesc (s : State) (i : Fin 6) (f : Descriptor → Descriptor) : State :=
  s.onRing fun r => { r with desc := r.desc.set i (f r.desc[i]) }

/-- Every descriptor becomes FREE (R65). -/
def State.emptyRing (s : State) : State := s.onRing fun r => { r with desc := Vector.replicate 6 Descriptor.freed }

/-! ## Wakes (R141, R146) and a waiting request given up (R144) -/

/-- A wake in DOZE: the move to ACTIVE begins, or, during the entry, the wake is kept until the entry completes
(R141). In any other power state it has no effect. -/
def wake (cause : WakeCause) (s : State) : State :=
  if s.power.state == .doze then
    if s.power.changing then s.onPower fun p => { p with wakePending := true, lastWake := some cause }
    else s.onPower fun p => { p with state := .active, changing := true, lastWake := some cause }
  else s

/-- The memory's contents are given up (R106, R145). -/
def State.loseMemory (s : State) : State := s.onDram fun _ => Dram.cleared

/-- A wake in STANDBY: the move to ACTIVE begins, turning round an entry still in progress, whose memory contents
are given up as at a completed entry (R145, R146). -/
def standbyWake (cause : WakeCause) (s : State) : State :=
  if s.power.state == .standby then
    (if s.power.changing then s.loseMemory else s).onPower fun p =>
      { p with state := .active, changing := true, lastWake := some cause }
  else s

/-- A waiting request is given up with a cause, and POWER_REFUSED is raised (R144). -/
def giveUpWaiting (cause : RefusalCause) (s : State) : State :=
  if s.power.waiting then
    raise .powerRefused (s.onPower fun p => { p with waiting := false, lastRefusal := some cause })
  else s

/-- The engine is powered (R111). -/
def State.powered (s : State) : Bool := s.power.state == .active && !s.power.changing

/-! ## The memory arbiter (R108) -/

/-- A link's bulk read in progress (R132, R140). -/
def LinkState.bulkRead (l : LinkState) : Option BulkRead := l.response.bind PendingResponse.bulk

/-- Every tile of the current job is done (R110). -/
def State.tilesOver (s : State) : Bool := decide (s.tileCount ≤ s.engine.tilesDone)

/-- The current job is a measurement, whose tiles done stays 0 (R124). -/
def State.measuring (s : State) : Bool :=
  match s.engine.work with
  | .measuring _ _ => true
  | _ => false

/-- The current job reads no tile: the measurement of a light that its quality rejects, which is neither calibrated nor
scanned (R75 step 2, R112; assumption 11). -/
def State.tileless (s : State) : Bool :=
  match s.engine.job, s.engine.work with
  | .descriptor _, .measuring true none => true
  | _, _ => false

/-- The engine works on a tile: it has a job with a tile left, and it is powered or is ending its tile for a stop (R111,
R121). -/
def State.onTile (s : State) : Bool :=
  s.engine.job != .none && (s.powered || s.engine.stop != .none) && (s.measuring || !s.tilesOver)

/-- Who may wait for the stacked DRAM (R108). -/
inductive MemoryUser where
  | sensorPort | engine | link
  deriving DecidableEq, Repr

/-- Who is granted the next access (R108). `awake` says that the memory is ACTIVE, where alone the arbiter grants: the
Sensor Port first, then of the engine and a link bulk read that both wait the one that was not granted last, then the
one that waits. -/
def arbiterGrant (awake sensorPort engine link : Bool) (last : Requester) : Option MemoryUser :=
  if !awake then none
  else if sensorPort then some .sensorPort
  else
    match engine, link with
    | true, true => some (match last with | .engine => .link | .link => .engine)
    | true, false => some .engine
    | false, true => some .link
    | false, false => none

/-- The memory is ACTIVE: it is so in a part settled in ACTIVE (R138), and stays so while a transition out of it is in
progress (R139). R108 grants in ACTIVE alone and R139 grants nothing while CHANGING is set, yet R121, R122, R148 and R150
let the engine end the tile in progress during a hold entry or an entry to STANDBY, with CHANGING set. The model lets
that tile be granted for as long as the memory item still reads ACTIVE (DESIGN CHOICE, assumption 41). -/
def State.memoryAwake (s : State) : Bool := s.powered || s.power.memory == .active

/-- The arbiter's next grant while `who` waits (R108): the engine waits too while it works on a tile, and a link bulk read
while one is in progress in a powered part. -/
def State.nextGrant (s : State) (who : MemoryUser) : Option MemoryUser :=
  arbiterGrant s.memoryAwake (who == .sensorPort) (who == .engine || s.onTile)
    (who == .link || (s.powered && s.pLink.bulkRead.isSome)) s.engine.lastGranted

/-- The arbiter records a grant to the engine or to a link bulk read; the Sensor Port's leave their alternation as it is
(R108). -/
def recordGrant (u : MemoryUser) (s : State) : State :=
  match u with
  | .sensorPort => s
  | .engine => s.onEngine fun e => { e with lastGranted := .engine }
  | .link => s.onEngine fun e => { e with lastGranted := .link }

/-- The arbiter's grants, one access each, until `who` has been granted one; none when it is not granted. Neither of the
engine and a bulk read waits for more than one access of the other (R108), so two grants are enough. The access of the
one that is granted in between is one of its own work, and changes nothing but the record of the grant (assumption 30). -/
def grantsUntil (who : MemoryUser) : Nat → State → Option State
  | 0, _ => none
  | fuel + 1, s =>
    match s.nextGrant who with
    | none => none
    | some u => if u = who then some (recordGrant u s) else grantsUntil who fuel (recordGrant u s)

/-- A use of the memory is made when the arbiter grants it, and is not made otherwise (R108). -/
def whenServed (who : MemoryUser) (use : State → State) (s : State) : State :=
  match grantsUntil who 2 s with
  | some t => use t
  | none => s

/-! ## The session's state (R2) -/

/-- The session enters a state other than PAUSED; the pause cause is absent there (R1, R2). -/
def enterSession (st : SessionState) (s : State) : State :=
  raise .sessionState (s.onSession fun x => { x with state := st, pauseCause := none })

/-- The session enters PAUSED with a cause (R1, R2). -/
def enterPaused (cause : PauseCause) (s : State) : State :=
  raise .sessionState (s.onSession fun x => { x with state := .paused, pauseCause := some cause })

/-- The session enters the running state that the reference-set flag calls for (R7, R14, R18). -/
def enterRunning (s : State) : State :=
  enterSession (if s.session.referenceSet then .integrating else .referencing) s

/-- The drain check: when every descriptor is FREE or RETIRED in DRAINING, the session enters FINISHING and a finish
is posted (R13). Posting sets a pending mark of the engine, which is a wake in DOZE (R141). -/
def drainCheck (cause : WakeCause) (s : State) : State :=
  if s.session.state == .draining && s.ring.drained then
    wake cause ((enterSession .finishing s).onEngine fun e => { e with finishPending := true })
  else s

/-! ## The Exposure Sequencer's phases (chapter 2) -/

/-- The sequencer enters IDLE: the Cadence Timer and the wake alarm are cancelled (R34, R42). -/
def enterIdle (s : State) : State :=
  s.onSeq fun q => { q with phase := .idle, cadenceTimer := none, keptExpiry := false, wakeAlarm := none }

/-- The cover is open: the shutter timer is cancelled, and the sequencer enters WAIT_START in a running state and
IDLE otherwise (R41). -/
def coverOpen (s : State) : State :=
  let s := s.onSeq fun q => { q with shutterTimer := none }
  if s.running then s.onSeq fun q => { q with phase := .waitStart } else enterIdle s

/-- The sequencer enters WAIT_OPEN for 500 ms; a cover already open ends the wait at once (R41). -/
def enterWaitOpen (s : State) : State :=
  if s.lines.shutterClosed then
    s.onSeq fun q => { q with phase := .waitOpen, shutterTimer := some (later q.clock 500) }
  else coverOpen s

/-- SHUTTER_CLOSE is released. -/
def releaseShutter (s : State) : State := s.onLines fun l => { l with shutterClose := false }

/-- The sequencer's action on entry to DRAINING (R44). -/
def sequencerDrain (s : State) : State :=
  match s.seq.phase with
  | .waitStart => enterIdle s
  | .waitShutter => enterWaitOpen (releaseShutter s)
  | .exposing => s
  | .waitOpen => s
  | .idle => s

/-- Entry to DRAINING by Finish or by automatic finish, with the drain check (R12, R13, R44). -/
def enterDraining (cause : WakeCause) (s : State) : State :=
  drainCheck cause (sequencerDrain (enterSession .draining s))

/-- The sequencer takes up its cadence afresh (R30). -/
def cadenceAfresh (s : State) : State :=
  let timer := if s.mode == .timed then some s.now else none
  if s.lines.shutterClosed || s.seq.phase == .waitOpen then
    s.onSeq fun q => { q with
      phase := .waitOpen, shutterTimer := some (later q.clock 500), cadenceTimer := timer, keptExpiry := false }
  else
    s.onSeq fun q => { q with phase := .waitStart, shutterTimer := none, cadenceTimer := timer, keptExpiry := false }

/-! ## Limits (R15, R16) and the pending plan (R23) -/

/-- The active plan's sub limit is met (R16). -/
def State.subLimitMet (s : State) : Bool := decide (s.plan.subLimit ≤ s.session.totals.subsOpened)

/-- The active plan's duration limit is reached (R15). -/
def State.durationMet (s : State) : Bool :=
  s.plan.durationLimit != 0 && decide (60000 * s.plan.durationLimit ≤ s.session.runTime)

/-- The automatic finish on the sub limit (R16). -/
def checkSubLimit (s : State) : State :=
  if s.running && s.plan.autoFinish && s.subLimitMet then enterDraining .alarm s else s

/-- The automatic finish on either limit (R15, R16). -/
def checkLimits (s : State) : State :=
  if s.running && s.plan.autoFinish && (s.subLimitMet || s.durationMet) then enterDraining .alarm s else s

/-- The pending plan, if any, becomes active, and PLAN_SWITCHED is raised (R23). -/
def applyPending (s : State) : State :=
  match s.session.pendingPlan with
  | none => s
  | some i => raise .planSwitched (s.onSession fun x => { x with activePlan := i, pendingPlan := none })

/-- The session's entry to a running state with the sequencer's cadence taken up afresh and the limits checked
(R7, R15, R16, R18, R30). -/
def resumeRunning (s : State) : State := checkLimits (cadenceAfresh (enterRunning s))

/-! ## Retirement (R64) -/

/-- The totals after a retirement (R26). -/
def Totals.retire (t : Totals) (o : SubOutcome) (exposure : Nat) : Totals :=
  match o with
  | .merged =>
    { t with lightsMerged := t.lightsMerged + 1, skyMs := t.skyMs + exposure, groundMs := t.groundMs + exposure }
  | .groundOnly _ => { t with lightsGroundOnly := t.lightsGroundOnly + 1, groundMs := t.groundMs + exposure }
  | .rejected .shake => { t with rejectedShake := t.rejectedShake + 1 }
  | .rejected .moved => { t with rejectedMoved := t.rejectedMoved + 1 }
  | .rejected .geometry => { t with rejectedGeometry := t.rejectedGeometry + 1 }
  | .rejected .paused => { t with rejectedPaused := t.rejectedPaused + 1 }
  | .rejected .abandoned => { t with rejectedAbandoned := t.rejectedAbandoned + 1 }
  | .partialMerge => t
  | .darkMerged => { t with darksMerged := t.darksMerged + 1 }
  | .darkDiscarded _ => { t with darksDiscarded := t.darksDiscarded + 1 }

/-- The referencing attempt counter after a retirement (R9). -/
def attemptsAfter (o : SubOutcome) (n : Nat) : Nat :=
  if o = .groundOnly .referenceFailed then saturate 255 (n + 1) else n

/-- The consecutive-MOVED counter after a retirement; `resolved` says that the engine resolved the light's pose
(R10). -/
def movedAfter (o : SubOutcome) (resolved : Bool) (n : Nat) : Nat :=
  if o = .rejected .moved then saturate 255 (n + 1) else if resolved then 0 else n

/-- The consecutive-GEOMETRY counter after a retirement (R11). -/
def geometryAfter (o : SubOutcome) (n : Nat) : Nat :=
  if o = .rejected .geometry then saturate 255 (n + 1) else n

/-- Steps 1 to 5 of a retirement: the record, the last retired sub number, the totals, the counters and SUB_RETIRED
(R64). -/
def retireRecord (i : Fin 6) (o : SubOutcome) (resolved : Bool) (s : State) : State :=
  let d := s.ring.desc[i]
  let s := s.onDesc i fun d => { d with state := .retired, outcome := some o }
  let s := s.onRing fun r => { r with lastRetired := d.sub }
  let s := s.onSession fun x => { x with
    totals := x.totals.retire o d.exposure
    attempts := attemptsAfter o x.attempts
    movedCount := movedAfter o resolved x.movedCount
    geometryCount := geometryAfter o x.geometryCount }
  raise .subRetired s

/-- The sequencer's action on entry to PAUSED for a cause other than HOLD (R43). -/
def sequencerPause (s : State) : State :=
  match s.seq.phase with
  | .waitStart => enterIdle s
  | .waitShutter => enterWaitOpen (releaseShutter s)
  | .exposing =>
    match s.seq.current with
    | none => enterIdle (s.onLines fun l => { l with trigger := false })
    | some c =>
      let s := s.onLines fun l => { l with trigger := false }
      let s := s.onSeq fun q => { q with wakeAlarm := none, current := none }
      let s := retireRecord c.index (.rejected .paused) false s
      match c.kind with
      | .dark => enterWaitOpen (releaseShutter s)
      | .light => enterIdle s
  | .waitOpen => s
  | .idle => s

/-- The session pauses for a cause other than HOLD (R6, R8, R43). -/
def pauseSession (cause : PauseCause) (s : State) : State := sequencerPause (enterPaused cause s)

/-- The pause that a retirement's counters call for (R9, R10, R11). -/
def counterPause (o : SubOutcome) (s : State) : State :=
  match o with
  | .groundOnly .referenceFailed =>
    if s.session.state == .referencing && s.session.attempts == 4 then pauseSession .starless s else s
  | .rejected .moved => if s.running && s.session.movedCount == 3 then pauseSession .moved s else s
  | .rejected .geometry =>
    if s.running && decide (3 ≤ s.session.geometryCount) then
      pauseSession .sensor (s.onSession fun x => { x with geometryCount := 0 })
    else s
  | _ => s

/-- A retirement with an outcome: its record, the pause its counters call for, and the drain check (R64). -/
def retire (i : Fin 6) (o : SubOutcome) (resolved : Bool) (s : State) : State :=
  drainCheck .alarm (counterPause o (retireRecord i o resolved s))

/-! ## Starts, openings and ends of exposures (R31 to R33, R39 to R42) -/

/-- The time remaining that the sequencer states, none when it is unbounded (R42). A REMOTE_GATE light's time is that
to its 500 ms minimum. With no exposure in progress it is bounded in a running session alone, as R140 says where R42
speaks of TIMED without the session (assumption 38). -/
def State.timeRemaining (s : State) : Option Nat :=
  match s.seq.current with
  | some c =>
    let d := s.ring.desc[c.index]
    let ran := elapsed c.start s.now
    if c.kind == .light && d.snapshot.triggerMode == .remoteGate then some (500 - ran) else some (d.exposure - ran)
  | none =>
    if s.running && s.mode == .timed then
      if s.seq.keptExpiry then some 0 else s.seq.cadenceTimer.map fun t => elapsed s.now t
    else none

/-- The record of a sub that opens (R32, R59). -/
def Descriptor.opened (sub : Nat) (kind : SubKind) (now : Clock) (plan : Plan) : Descriptor where
  state := .exposing
  sub := sub
  kind := kind
  start := now
  exposure := plan.subLength
  temperature := none
  snapshot := plan
  pose := .absent
  residual := none
  matched := 0
  calibration := none
  outcome := none
  rejectedCells := 0
  mergedSky := 0
  mergedGround := 0

/-- The planned end of an exposure, as a delay from its start (R27, R37). -/
def plannedLength (kind : SubKind) (plan : Plan) : Nat :=
  if kind == .light && plan.triggerMode == .remoteGate then 900000 else plan.subLength

/-- The wake alarm's delay from the start of an exposure (R42). -/
def alarmDelay (kind : SubKind) (plan : Plan) : Nat :=
  if kind == .light && plan.triggerMode == .remoteGate then 460 else plan.subLength - 40

/-- The opening of a sub in descriptor `i` (R32), before the sub limit is checked. -/
def openIn (i : Fin 6) (kind : SubKind) (s : State) : State :=
  let plan := s.plan
  let sub := s.session.totals.subsOpened + 1
  let now := s.now
  let s := s.onSession fun x => { x with totals := { x.totals with subsOpened := sub } }
  let s := s.onRing fun r => { r with
    desc := r.desc.set i (Descriptor.opened sub kind now plan), lastOpened := sub }
  let s := s.onLines fun l => { l with trigger := true }
  let s := s.onSeq fun q => { q with
    phase := .exposing
    current := some ⟨i, sub, kind, now, later now (plannedLength kind plan), !q.remotePressed⟩
    shutterTimer := none
    wakeAlarm := some (later now (alarmDelay kind plan))
    lightsSinceDark := if kind == .light then saturate 255 (q.lightsSinceDark + 1) else 0 }
  let s := raise .subOpened s
  if s.timeRemaining.any (· < 250) then wake .alarm s else s

/-- The opening of a sub: the ring chooses the descriptor, and the sub limit is checked afterwards (R32, R61). With no
FREE or RETIRED descriptor nothing opens; R61 says that this does not arise. -/
def openSub (kind : SubKind) (s : State) : State :=
  match s.ring.openingChoice with
  | none => s
  | some i => checkSubLimit (openIn i kind s)

/-- The Cadence Timer after a start that opens no sub: one sub length plus one gap of the active plan later in TIMED,
absent in the other modes (R31). -/
def cadenceAfterNoSub (s : State) : State :=
  s.onSeq fun q => { q with
    cadenceTimer := if s.mode == .timed then some (later q.clock (s.plan.subLength + s.plan.gap)) else none }

/-- The start is a dark (R39). -/
def State.darkDue (s : State) : Bool :=
  s.plan.darkCadence != 0 && decide (s.plan.darkCadence ≤ s.seq.lightsSinceDark)

/-- A dark start with a descriptor available: the shutter handshake begins (R40). -/
def beginHandshake (s : State) : State :=
  let s := s.onLines fun l => { l with shutterClose := true }
  if s.lines.shutterClosed then openSub .dark s
  else s.onSeq fun q => { q with phase := .waitShutter, shutterTimer := some (later q.clock 500) }

/-- A skipped start: SUB_SKIPPED and the skipped subs total (R31 step 4). -/
def skipStart (s : State) : State :=
  cadenceAfterNoSub
    (raise .subSkipped (s.onSession fun x => { x with totals := { x.totals with skipped := x.totals.skipped + 1 } }))

/-- Steps 2 to 5 of a start, in a running state (R31). -/
def startSub (s : State) : State :=
  if s.subLimitMet then if s.plan.autoFinish then enterDraining .alarm s else cadenceAfterNoSub s
  else
    match s.ring.openingChoice with
    | none => skipStart s
    | some _ => if s.darkDue then beginHandshake s else openSub .light s

/-- A start (R31): the kept expiry is cleared, the pending plan is applied and its limits are checked (R23), and the
start goes on if the session is still running. -/
def makeStart (s : State) : State :=
  let s := s.onSeq fun q => { q with cadenceTimer := none, keptExpiry := false }
  let s := match s.session.pendingPlan with
    | none => s
    | some _ => checkLimits (applyPending s)
  if s.running then startSub s else s

/-- A start can be made: WAIT_START in a running state with no descriptor READING (R31). -/
def State.canStart (s : State) : Bool := s.seq.phase == .waitStart && s.running && s.reading.isNone

/-- The current exposure is a REMOTE_GATE light (R37). -/
def State.isGateLight (s : State) (c : CurrentExposure) : Bool :=
  c.kind == .light && s.ring.desc[c.index].snapshot.triggerMode == .remoteGate

/-- The end of the current exposure (R33, R37, R57). -/
def endExposure (c : CurrentExposure) (s : State) : State :=
  let snapshot := s.ring.desc[c.index].snapshot
  let ran := elapsed c.start s.now
  let gate := s.isGateLight c
  let timed := s.mode == .timed
  let s := s.onLines fun l => { l with trigger := false }
  let s := s.onDesc c.index fun d => { d with state := .reading, exposure := if gate then ran else d.exposure }
  let s := s.onPort fun p => { p with readoutTimer := some (later s.now 2000) }
  let s := s.onSeq fun q => { q with
    current := none
    wakeAlarm := none
    cadenceTimer := if timed then some (later q.clock snapshot.gap) else q.cadenceTimer
    keptExpiry := if timed then false else q.keptExpiry }
  match c.kind with
  | .dark => enterWaitOpen (releaseShutter s)
  | .light => if s.running then s.onSeq fun q => { q with phase := .waitStart } else enterIdle s

/-- The current exposure has reached its end: its length, or for a REMOTE_GATE light 500 ms after a release that came
before, or 900,000 ms (R33, R37). A press after that release does not carry the light on. -/
def State.exposureOver (s : State) (c : CurrentExposure) : Bool :=
  let ran := elapsed c.start s.now
  if s.isGateLight c then (decide (500 ≤ ran) && c.released) || decide (900000 ≤ ran)
  else decide (s.ring.desc[c.index].exposure ≤ ran)

/-! ## The Dark Library (chapter 5) -/

/-- Change one slot. -/
def State.onSlot (s : State) (i : Fin 4) (f : DarkSlot → DarkSlot) : State :=
  s.onDarks fun d => { d with slots := d.slots.set i (f d.slots[i]) }

/-- The first slot that satisfies a test, by index. -/
def DarkLibrary.first (d : DarkLibrary) (test : DarkSlot → Bool) : Option (Fin 4) :=
  (List.finRange 4).find? fun i => test d.slots[i]

/-- A slot becomes EMPTY and leaves the use order (R92). -/
def emptySlot (i : Fin 4) (s : State) : State :=
  (s.onSlot i fun _ => DarkSlot.emptied).onDarks fun d => { d with useOrder := d.useOrder.erase i }

/-- A slot's last-used sub number is written and the slot moves to the most recent end of the use order (R92). -/
def touchSlot (i : Fin 4) (sub : Nat) (s : State) : State :=
  (s.onSlot i fun x => { x with lastUsed := sub }).onDarks fun d => { d with useOrder := d.useOrder.erase i ++ [i] }

/-- The library is emptied (R98). -/
def emptyLibrary (s : State) : State := s.onDarks fun _ => DarkLibrary.emptied

/-! ## Stopping the engine (R121, R122) -/

/-- The engine holds no job, and its tiles done are 0. R109 counts the tiles of the current job and R110 sets the count
to 0 at each taking; what it reads while there is no job after a completion, a stop or an abandonment no rule says but
R121 for a stopped clear, and the model has it 0 after every end of a job (DESIGN CHOICE, assumption 40). -/
def freeEngine (s : State) : State :=
  s.onEngine fun e => { e with job := .none, work := .none, tilesDone := 0, stop := .none }

/-- The calibration in use becomes absent (R102). -/
def clearInUse (s : State) : State := s.onDarks fun d => { d with inUse := none }

/-- A dark merge stopped before its completion empties its slot (R96). -/
def giveUpMergeTarget (s : State) : State :=
  match s.darks.mergeTarget with
  | none => s
  | some i => (emptySlot i s).onDarks fun d => { d with mergeTarget := none }

/-- A hold stops the job in progress: what the row of R121 for its kind gives, and the engine is free. -/
def holdStop (s : State) : State :=
  let s := match s.engine.job with
    | .none => s
    | .planeClear => s.onEngine fun e => { e with clearPending := true }
    | .finish => s.onEngine fun e => { e with finishPending := true }
    | .preview => s.onResults fun r => { r with lastPreviewEnd := some .droppedHold }
    | .descriptor i =>
      match s.engine.work with
      | .merging _ aligned _ => clearInUse (retire i .partialMerge aligned s)
      | .darkMerging => giveUpMergeTarget (retire i .partialMerge false s)
      | _ => clearInUse (s.onDesc i fun d => { d with state := .waiting })
  freeEngine s

/-- A close ends the job in progress with no result applied; a dark merge empties its slot (R122, R96). -/
def closeStop (s : State) : State := freeEngine (clearInUse (giveUpMergeTarget s))

/-- A stop takes effect at the end of the tile in progress (R121, R122). -/
def takeStop (s : State) : State :=
  match s.engine.stop with
  | .none => s
  | .hold => holdStop s
  | .close => closeStop s

/-- A job has ended by its own completion; the engine is free (R110). -/
def endJob (s : State) : State := freeEngine s

/-! ## Supply hold and STANDBY (sections 8.3 and 8.4) -/

/-- The memory holds something to keep (R148). -/
def State.somethingToKeep (s : State) : Bool := !s.idleOrLost || (s.darks.first fun x => x.state != .empty).isSome

/-- The hold condition but for the level of PF_WARN (R148). -/
def State.holdReady (s : State) : Bool :=
  (s.power.state == .active || s.power.state == .doze) && !s.power.changing && s.somethingToKeep

/-- The hold condition (R148). -/
def State.holdCondition (s : State) : Bool := s.lines.pfWarn && s.holdReady

/-- The sequencer stops at the hold entry (R47). -/
def sequencerHold (s : State) : State :=
  let s := s.onLines fun l => { l with trigger := false, shutterClose := false }
  let s := match s.seq.phase, s.seq.current with
    | .exposing, some c => retire c.index (.rejected .abandoned) false s
    | _, _ => s
  enterIdle (s.onSeq fun q => { q with shutterTimer := none, current := none, debounceTimer := none })

/-- The Sensor Port at the hold entry (R58). -/
def portHold (s : State) : State :=
  let s := match s.reading with
    | none => s
    | some i => retire i (.rejected .abandoned) false s
  s.onPort fun p => { p with
    readoutTimer := none
    reception := match p.reception with
      | .receiving _ => .discarding
      | r => r }

/-- The session at the hold entry (R18). -/
def sessionHold (s : State) : State := if s.running then enterPaused .hold s else s

/-- The engine at the hold entry: a pending preview is dropped (R134), and the job in progress is to stop (R121). A
merge with no tile done is stopped at its start. -/
def engineHold (s : State) : State :=
  let s := if s.engine.previewPending then
      (s.onEngine fun e => { e with previewPending := false }).onResults fun r =>
        { r with lastPreviewEnd := some .droppedHold }
    else s
  match s.engine.job, s.engine.stop with
  | _, .close => s
  | .none, _ => s.onEngine fun e => { e with stop := .none }
  | .descriptor _, _ =>
    match s.engine.work with
    | .merging _ _ _ => if s.engine.tilesDone = 0 then holdStop s else s.onEngine fun e => { e with stop := .hold }
    | .darkMerging => if s.engine.tilesDone = 0 then holdStop s else s.onEngine fun e => { e with stop := .hold }
    | _ => s.onEngine fun e => { e with stop := .hold }
  | _, _ => s.onEngine fun e => { e with stop := .hold }

/-- A response whose bulk read is in progress becomes READY with the outcome HELD and no payload (R157). -/
def LinkState.heldBulk (l : LinkState) : LinkState :=
  match l.response with
  | some ⟨r, some _⟩ => { l with response := some ⟨{ r with outcome := .held, fields := [], payload := [] }, none⟩ }
  | _ => l

/-- The hold entry (R148). -/
def enterHold (s : State) : State :=
  let fromDoze := s.power.state == .doze
  let s := s.onLines fun l => { l with pfWarn := true }
  let s := s.onPower fun p => { p with
    state := .hold, changing := !fromDoze, reserveTimer := some (later s.now (1000 * s.session.holdReserve)) }
  let s := raise .holdChanged s
  let s := engineHold (sessionHold (portHold (sequencerHold s)))
  let s := (s.onPLink LinkState.heldBulk).onSLink LinkState.heldBulk
  if fromDoze then raise .powerState s else s

/-- The debounce interval starts again when a hold ends, if the line differs from the debounced state (R47). -/
def restartDebounce (s : State) : State :=
  s.onSeq fun q => { q with
    debounceTimer := if s.lines.remoteLow == q.remotePressed then none else some (later q.clock 20) }

/-- The markers become EMPTY (R125). -/
def emptyMarkers (s : State) : State := s.onResults fun r => { r with output := .empty, preview := .empty }

/-- The entry to STANDBY begins (R145). -/
def enterStandby (s : State) : State :=
  let s := s.onPower fun p => { p with state := .standby, changing := true, waiting := false }
  emptyMarkers (emptyLibrary s)

/-! ## Guide Star Table changes (R78) -/

/-- The LOCKED count (R68). -/
def lockedCount (stars : Vector Star 24) : Nat := (stars.toList.filter fun x => x.state == .locked).length

/-- The judgement of a table change from the LOCKED count before it; `setting` says that the change sets the
reference (R78). -/
def judgeTable (before : Nat) (setting : Bool) (s : State) : State :=
  let after := lockedCount s.guidance.stars
  let s := if (decide (8 ≤ before) || setting) && decide (after < 8) then raise .starCountLow s else s
  s.onGuidance fun g => { g with reacquisitionDue := decide (after < 8) }

/-! ## Link requests (R154, R155) -/

/-- The answer to a request: the state after its effects, the outcome, the field list, the payload, and the bulk read
it begins, if any. -/
structure Answer where
  state : State
  outcome : ReqOutcome
  fields : List Nat
  payload : List Byte
  bulk : Option BulkRead

/-- An answer with no fields and no payload. -/
def plain (o : ReqOutcome) (s : State) : Answer := ⟨s, o, [], [], none⟩

/-- DONE with a payload. -/
def doneWith (payload : List Byte) (s : State) : Answer := ⟨s, .done, [], payload, none⟩

/-- REFUSED_RANGE naming the offsets of the fields out of range (R168). -/
def refusedRange (fields : List Nat) (s : State) : Answer := ⟨s, .refusedRange, fields, [], none⟩

/-- DONE, or DONE_CLAMPED when fields were changed (R155, R168). -/
def doneOrClamped (fields : List Nat) (payload : List Byte) (s : State) : Answer :=
  ⟨s, if fields.isEmpty then .done else .doneClamped, fields, payload, none⟩

/-- The identifier of the request's length in a field list (R168). -/
def lengthField : Nat := 0xfffe

/-- The effects of a request's taking, before it is judged: the idle bytes the part sent, the pending response
discarded (R154, R155), the wake in STANDBY (R146) and a waiting request given up by the S-link (R144). -/
def takeRequest (p : SelectPeriod) (wakes : Bool) (s : State) : State :=
  let s := s.onLink p.link fun l => { l with response := none, sent := List.replicate (byteCount p) 0xff#8 }
  let s := if wakes then standbyWake (match p.link with | .p => .pLink | .s => .sLink) s else s
  match p.link with
  | .p => s
  | .s => giveUpWaiting .woken s

/-- The response record becomes the link's pending response (R155). -/
def respond (code : Byte) (p : SelectPeriod) (a : Answer) : State :=
  a.state.onLink p.link fun l =>
    { l with response := some ⟨⟨code, tagOf p, a.outcome, a.fields, a.payload⟩, a.bulk⟩ }

/-- A request taken, judged and answered: `need` is the number of bytes its layout needs (R154), `wakes` whether it is
a wake in STANDBY (R146). -/
def answerWaking (wakes : Bool) (code : Byte) (p : SelectPeriod) (need : Nat) (judge : State → Answer) (s : State) :
    State :=
  let s := takeRequest p wakes s
  respond code p (if byteCount p < need then refusedRange [lengthField] s else judge s)

/-- A request that is a wake in STANDBY, as every request but Set Power STANDBY is (R146). -/
def answer (code : Byte) (p : SelectPeriod) (need : Nat) (judge : State → Answer) (s : State) : State :=
  answerWaking true code p need judge s

/-- A request permitted on the P-link alone (R158). -/
def onPOnly (p : SelectPeriod) (judge : State → Answer) (s : State) : Answer :=
  match p.link with
  | .p => judge s
  | .s => plain .refusedLink s

/-- A request that needs the memory or the engine, answered HELD in HOLD (R149). -/
def unlessHeld (judge : State → Answer) (s : State) : Answer :=
  if s.power.state == .hold then plain .held s else judge s

end Sys2Proof.Machine
end

