-- ==== Sys2Proof/Machine/Records.lean ====
section
/-! DEFINITION. The records that responses carry and the bytes of a response (chapter 10). A read without a layout
table carries its fields in the order its rule lists them (R169; assumption 8). -/

namespace Sys2Proof.Machine

/-! ## Response records (R168) -/

/-- The bytes of a response record (R168). -/
def Response.bytes (r : Response) : List Byte :=
  [0xc3#8, r.code, r.tag] ++ u8 (reqOutcomeCode r.outcome) ++ u16 (1 + 2 * r.fields.length + r.payload.length) ++
    u8 r.fields.length ++ r.fields.flatMap u16 ++ r.payload

/-! ## Plans and settings (R170, R25) -/

/-- The plan record of 31 bytes (R170). -/
def planRecord (p : Plan) : List Byte :=
  u32 p.subLength ++ u32 p.gap ++ u8 (triggerModeCode p.triggerMode) ++ u16 p.subLimit ++ u16 p.durationLimit ++
    flag p.autoFinish ++ u8 p.darkCadence ++ u8 p.darkMinimum ++ u16 p.blackLevel ++ u8 p.rejectK ++ u8 p.rejectMin ++
    u16 p.floorVariance ++ u16 p.starThreshold ++ u8 p.windowRadius ++ u16 p.driftLimit ++ u16 p.outputPedestal ++
    flag p.autoDoze ++ flag p.resumeAfterHold

/-- The payload of Read Plan: the record and whether the slot is the active one, the pending one or neither (R21,
R170). -/
def readPlanPayload (s : State) (i : Fin 4) : List Byte :=
  planRecord s.session.plans[i] ++
    u8 (if s.session.activePlan = i then 1 else if s.session.pendingPlan = some i then 2 else 0)

/-- The payload of Read Part Settings (R25). -/
def partSettingsPayload (s : State) : List Byte := u8 s.session.holdReserve ++ flag s.session.remoteWake

/-! ## Sequencer and Sensor Port (R29, R50) -/

/-- The current exposure (R27). -/
def exposureRecord (c : CurrentExposure) : List Byte :=
  u8 c.index.val ++ u16 c.sub ++ u8 (kindCode c.kind) ++ u32Clock c.start ++ u32Clock c.plannedEnd

/-- The payload of Read Sequencer (R29). -/
def sequencerPayload (s : State) : List Byte :=
  u32Clock s.seq.clock ++ u8 (phaseCode s.seq.phase) ++ presence 4 u32Clock s.seq.cadenceTimer ++ flag s.seq.keptExpiry ++
    presence 12 exposureRecord s.seq.current ++ u8 s.seq.lightsSinceDark ++ flag s.seq.remotePressed ++
    flag s.lines.trigger ++ flag s.lines.shutterClose ++ flag s.lines.shutterClosed ++
    presence 5 (fun f => u8 (shutterFaultCode f.1) ++ u32Clock f.2) s.seq.lastFault

/-- The payload of Read Sensor: every item of R48 in its order (R50). -/
def sensorPayload (s : State) : List Byte :=
  let p := s.port
  u16 p.width ++ u16 p.height ++ u8 (bayerCode p.bayer) ++ u8 p.lanes ++ u8 (laneSyncCode p.sync) ++
    u8 (receptionCode p.reception) ++ presence 2 u16 (receptionSub p.reception) ++ u16 p.lineCount ++ u16 p.pixelCount ++
    flag p.frameFailed ++ presence 4 u32Clock p.readoutTimer ++
    presence 4 (fun t => u16 t.frameCounter ++ s16 t.temperature) p.lastTrailer ++
    codeOrFf (p.lastResult.map frameResultCode) ++ u16 p.discarded

/-! ## Sub Ring (R66, R67, R172) -/

/-- The pose fields of a sub outcome record: form, φ, tx, ty and quality (R172). -/
def poseRecord (p : Pose) : List Byte :=
  u8 (poseFormCode p) ++
    match p with
    | .absent => u16 0 ++ s24 0 ++ s24 0 ++ u8 0xff
    | .reported phi tx ty q => u16 phi ++ s24 tx ++ s24 ty ++ u8 (qualityCode q)
    | .predicted phi tx ty => u16 phi ++ s24 tx ++ s24 ty ++ u8 0xff

/-- The sub outcome record of 78 bytes (R172). -/
def subOutcomeRecord (i : Fin 6) (d : Descriptor) : List Byte :=
  u8 i.val ++ u8 (descStateCode d.state) ++ u16 d.sub ++ u8 (kindCode d.kind) ++ presence 2 s16 d.temperature ++
    u32Clock d.start ++ u32 d.exposure ++ poseRecord d.pose ++ presence 4 s16Pair d.residual ++ u8 d.matched ++
    codeOrFf (d.calibration.map calibrationCode) ++ codeOrFf (d.outcome.map outcomeCode) ++
    codeOrFf (d.outcome.bind causeCode) ++ u32 d.rejectedCells ++ u32 d.mergedSky ++ u32 d.mergedGround ++
    planRecord d.snapshot

/-- The summary of a descriptor that Read Ring gives (R67): a FREE one has sub number 0 and no kind, and the outcome
and cause stand for a RETIRED one alone. -/
def ringEntry (r : Ring) (i : Fin 6) : List Byte :=
  let d := r.desc[i]
  let free := d.state == .free
  let outcome := if d.state == .retired then d.outcome else none
  u8 i.val ++ u8 (descStateCode d.state) ++ u16 (if free then 0 else d.sub) ++
    codeOrFf (if free then none else some (kindCode d.kind)) ++ codeOrFf (outcome.map outcomeCode) ++
    codeOrFf (outcome.bind causeCode)

/-- The payload of Read Ring (R67). -/
def ringPayload (s : State) : List Byte :=
  u16 s.ring.lastOpened ++ u16 s.ring.lastRetired ++ counted (ringEntry s.ring) (List.finRange 6)

/-! ## Guidance (R88, R173, R174) -/

/-- The drift record of 10 bytes (R173). -/
def driftPayload (s : State) : List Byte :=
  presence 9
    (fun d => u16 d.sub ++ presence 4 s16Pair d.residual ++ u8 d.matched ++
      u8 (16 * poseSourceCode d.source + driftResultCode d.result)) s.guidance.drift

/-- One entry of the pose history (R88). -/
def poseEntryRecord (e : PoseEntry) : List Byte :=
  u16 e.sub ++ u32Clock e.midTime ++ u16 e.phi ++ s24 e.tx ++ s24 e.ty ++ u8 (qualityCode e.quality)

/-- The number of guide star entries in a state (R88). -/
def starCount (s : State) (st : StarState) : Nat := (s.guidance.stars.toList.filter fun x => x.state == st).length

/-- The payload of Read Guidance (R88). -/
def guidancePayload (s : State) : List Byte :=
  presence 6 (fun r => u16 r.sub ++ u32Clock r.midTime) s.guidance.reference ++
    counted poseEntryRecord s.guidance.history ++ u8 (lockedCount s.guidance.stars) ++
    [StarState.vacant, .locked, .missing, .lost, .hidden].flatMap (fun st => u8 (starCount s st)) ++
    flag s.guidance.reacquisitionDue

/-- Bytes of fields that have no meaning (assumption 2). -/
def meaninglessBytes (free entry width : Nat) : List Byte :=
  (List.range width).map fun k => Config.noMeaningByte free entry k

/-- The guide star entry of 31 bytes (R174). A VACANT entry's other fields have no meaning (R76). -/
def starRecord (free : Nat) (i : Fin 24) (st : Star) : List Byte :=
  u8 i.val ++ u8 (starStateCode st.state) ++
    if st.state == .vacant then meaninglessBytes free i.val 29
    else
      s32 st.refX ++ s32 st.refY ++ u32 st.flux ++ presence 8 s32Pair st.lastPos ++ presence 4 s16Pair st.lastResidual ++
        u8 st.missCount ++ u16 st.lastFound

/-- The payload of Read Star Table: the 24 entries in index order (R88, R174). -/
def starTablePayload (s : State) : List Byte :=
  (List.finRange 24).flatMap fun i => starRecord s.free i s.guidance.stars[i]

/-! ## Dark Library (R99, R175) -/

/-- The bytes of a slot's last-used sub number: those of the number, or free bytes while nothing has written one since
the slot was EMPTY, as in the merge of the first dark of a slot taken EMPTY (R90 has no value for it; assumption 39). -/
def lastUsedBytes (free : Nat) (i : Fin 4) (lastUsed : Nat) : List Byte :=
  if lastUsed = 0 then meaninglessBytes free i.val 2 else u16 lastUsed

/-- The dark slot summary of six bytes (R175). An EMPTY slot's other fields have no meaning (R90). -/
def slotRecord (free : Nat) (i : Fin 4) (x : DarkSlot) : List Byte :=
  u8 i.val ++ u8 (slotStateCode x.state) ++
    if x.state == .empty then meaninglessBytes free i.val 4
    else u8 x.band ++ u8 x.count ++ lastUsedBytes free i x.lastUsed

/-- The payload of Read Dark Library (R99, R175). -/
def darkLibraryPayload (s : State) : List Byte :=
  (List.finRange 4).flatMap (fun i => slotRecord s.free i s.darks.slots[i]) ++
    counted (fun (i : Fin 4) => u8 i.val) s.darks.useOrder ++ codeOrFf (s.darks.mergeTarget.map Fin.val) ++
    codeOrFf (s.darks.inUse.map Fin.val)

/-! ## Engine (R124) -/

/-- The engine has work (R111). -/
def State.engineHasWork (s : State) : Bool :=
  s.engine.job != .none || s.engine.stop != .none || s.engine.clearPending || s.engine.finishPending ||
    s.engine.previewPending || s.ring.nextWaiting.isSome

/-- The current job as Read Engine names it: for a DESCRIPTOR job also the descriptor's index, sub number and state;
the last two are absent once a close has made the descriptor FREE (R124; assumption 8). -/
def jobRecord (s : State) : List Byte :=
  u8 (jobCode s.engine.job) ++
    match s.engine.job with
    | .descriptor i =>
      let d := s.ring.desc[i]
      let held := d.state != .free
      u8 i.val ++ presence 2 u16 (if held then some d.sub else none) ++
        codeOrFf (if held then some (descStateCode d.state) else none)
    | _ => u8 0xff ++ presence 2 u16 none ++ u8 0xff

/-- The payload of Read Engine (R124). -/
def enginePayload (s : State) : List Byte :=
  flag s.powered ++ jobRecord s ++ u16 s.engine.tilesDone ++ u16 s.tileCount ++ u8 (stopCode s.engine.stop) ++
    flag s.engine.clearPending ++ flag s.engine.finishPending ++ flag s.engine.previewPending ++
    u8 s.ring.waitingCount ++
    presence 2 u16 (if s.results.output == .valid then some s.results.pedestal else none) ++
    codeOrFf (s.results.lastPreviewEnd.map previewEndCode) ++ flag s.engineHasWork

/-! ## Tiles (R177) -/

/-- A tile entry of two bytes (R177). -/
def tileRecord (e : TileEntry) : List Byte := u8 (tileClassCode e.tileClass) ++ u8 e.weight

/-! ## Totals (R176) -/

/-- A total of 16 bits (R176). -/
def total16 (n : Nat) : List Byte := u16 (if n < 65536 then n else (Config.totalPastItsWidth n).toNat)

/-- A total of 48 bits (R176). -/
def total48 (n : Nat) : List Byte := u48 (if n < 2 ^ 48 then n else (Config.longTotalPastItsWidth n).toNat)

/-- The totals record of 44 bytes (R176). -/
def totalsPayload (s : State) : List Byte :=
  let t := s.session.totals
  total16 t.subsOpened ++ total16 t.lightsMerged ++ total16 t.lightsGroundOnly ++ total16 t.rejectedShake ++
    total16 t.rejectedMoved ++ total16 t.rejectedGeometry ++ total16 t.rejectedPaused ++ total16 t.rejectedAbandoned ++
    total16 t.skipped ++ total16 t.darksMerged ++ total16 t.darksDiscarded ++ total48 t.rejectedCells ++
    total48 t.skyMs ++ total48 t.groundMs ++ u32 s.session.runTime

/-- The preview stamp of 16 bytes (R180). -/
def stampRecord (x : PreviewStamp) : List Byte :=
  total16 x.note.lightsMerged ++ total16 x.note.lightsGroundOnly ++ total48 x.note.skyMs ++ u16 x.note.pedestal ++
    u32Clock x.clock

/-! ## Power (R152) -/

/-- The eight conditions of the entry to DOZE, in their order (R140). -/
def State.dozeConditions (s : State) : List Bool :=
  [s.power.state == .active && !s.power.changing,
    s.plan.autoDoze,
    !s.power.stayAwake,
    !s.engineHasWork,
    s.pLink.bulkRead.isNone,
    s.reading.isNone,
    s.timeRemaining.all (250 < ·),
    !(s.power.waiting && s.idleOrLost)]

/-- The payload of Read Power (R152). -/
def powerPayload (s : State) : List Byte :=
  let p := s.power
  u8 (powerStateCode p.state) ++ flag p.changing ++ u8 (memoryStateCode p.memory) ++ flag p.engineOn ++
    codeOrFf (if p.waiting then some 0 else none) ++ flag p.stayAwake ++
    presence 4 u32 (p.reserveTimer.map fun t => elapsed s.now t) ++ flag p.wakePending ++
    codeOrFf (p.lastWake.map wakeCauseCode) ++ codeOrFf (p.lastRefusal.map refusalCauseCode) ++ flag s.lines.pfWarn ++
    flag s.holdCondition ++ s.dozeConditions.flatMap flag

/-! ## Events and status (R162, R166, R179) -/

/-- An event set (R179): bit 15 is returned as 0. -/
def eventSet (e : BitVec 16) : List Byte := u16 (e &&& 0x7fff#16).toNat

/-- The payload of Read Events (R162, R179). -/
def eventsPayload (l : LinkState) : List Byte :=
  eventSet l.pendingSet ++ eventSet l.enableSet ++ l.order.flatMap (fun g => u8 (groupCode g)) ++ codeOrFf l.lead

/-- The payload of Acknowledge Events: the pending set and the lead event after the removal (R163). Chapter 10 gives this
response no layout, and R169's list does not name it; the model lays it out in the order in which R163 names the two, the
set as a u16 and the lead event as a u8 or FFh (DEDUCED, assumption 8). -/
def acknowledgePayload (l : LinkState) : List Byte := eventSet l.pendingSet ++ codeOrFf l.lead

/-- The payload of Read Status on a link (R166). -/
def statusPayload (link : Link) (s : State) : List Byte :=
  let l := s.link link
  u8 0x54 ++ u16 412 ++ u8 1 ++ u8 (linkCode link) ++ u8 (sessionStateCode s.session.state) ++
    codeOrFf (s.session.pauseCause.map pauseCauseCode) ++ flag s.session.referenceSet ++ u8 s.session.activePlan.val ++
    codeOrFf (s.session.pendingPlan.map Fin.val) ++ u8 (phaseCode s.seq.phase) ++ u16 s.ring.lastOpened ++
    u16 s.ring.lastRetired ++ u8 (powerStateCode s.power.state) ++ flag s.power.changing ++ flag s.power.stayAwake ++
    flag s.power.waiting ++ flag s.lines.pfWarn ++ jobRecord s ++ u8 s.ring.waitingCount ++ eventSet l.pendingSet ++
    eventSet l.enableSet ++ codeOrFf l.lead ++ flag l.attention

end Sys2Proof.Machine
end

