-- ==== Sys2Proof/Machine/SessionCommands.lean ====
section
/-! DEFINITION. The meanings of the commands of chapter 1: full reset, the session requests, the plan requests and the
part settings, with the part's own steps of the Session Controller. -/

namespace Sys2Proof.Machine

open Host (Outcome)

/-! ## Full reset -/

/-- Every block at its full-reset values; the levels of the input lines are their drivers' own, and a cable held
pressed starts its debounce interval (R1, R38). The queue and the model's counter are not the part's. -/
def fullReset (s : State) : State :=
  let r := State.reset
  let r := r.onLines fun l => { l with
    remoteLow := s.lines.remoteLow, shutterClosed := s.lines.shutterClosed, pfWarn := s.lines.pfWarn }
  let r := r.onSeq fun q => { q with debounceTimer := if s.lines.remoteLow then some 20#32 else none }
  (r.onFree fun _ => s.free).onPending fun _ => s.pending

/-- FULL_RESET (R1). -/
def execFullReset (s : State) : Outcome State Fault Refusal := .next (fullReset s)

/-! ## Arm, Start, Pause, Resume -/

/-- The effects of an Arm answered ACCEPTED (R3), with a waiting request given up (R144), the ring's numbers (R59)
and the wake (R141). -/
def armSession (s : State) : State :=
  let s := s.onSession fun x => { x with totals := Totals.zero, runTime := 0 }
  let s := s.onRing fun r => { r with lastOpened := 0, lastRetired := 0 }
  let s := enterSession .arming s
  let s := s.onEngine fun e => { e with clearPending := true }
  wake .pLink (giveUpWaiting .notIdle s)

/-- The judgement of Arm (R3). -/
def judgeArm (s : State) : Answer :=
  if s.session.state == .idle then plain .accepted (armSession s) else plain .refusedState s

/-- ARM (R3). -/
def execArm (p : SelectPeriod) (s : State) : Outcome State Fault Refusal :=
  .next (answer 0x01#8 p 2 (onPOnly p (unlessHeld judgeArm)) s)

/-- The effects of a Start answered DONE (R5, R27, R30). -/
def startSession (s : State) : State :=
  let s := s.onSession fun x => { x with
    referenceSet := false, attempts := 0, movedCount := 0, geometryCount := 0, runTime := 0 }
  let s := s.onSeq fun q => { q with
    current := none, lightsSinceDark := 0, shutterTimer := none, wakeAlarm := none, lastFault := none }
  cadenceAfresh (enterSession .referencing s)

/-- The judgement of Start (R5). -/
def judgeStart (s : State) : Answer :=
  match s.session.state with
  | .armed => plain .done (startSession s)
  | .arming => plain .busy s
  | _ => plain .refusedState s

/-- START (R5). -/
def execStart (p : SelectPeriod) (s : State) : Outcome State Fault Refusal :=
  .next (answer 0x02#8 p 2 (unlessHeld judgeStart) s)

/-- The judgement of Pause (R6). -/
def judgePause (s : State) : Answer :=
  if s.running then plain .done (pauseSession .request s) else plain .refusedState s

/-- PAUSE (R6). -/
def execPause (p : SelectPeriod) (s : State) : Outcome State Fault Refusal :=
  .next (answer 0x03#8 p 2 judgePause s)

/-- A Resume, or a press that acts as one (R7, R8). -/
def resumeSession (s : State) : State :=
  resumeRunning (s.onSession fun x => { x with attempts := 0, movedCount := 0 })

/-- The judgement of Resume (R7). -/
def judgeResume (s : State) : Answer :=
  if s.session.state == .paused then plain .done (resumeSession s) else plain .refusedState s

/-- RESUME (R7). -/
def execResume (p : SelectPeriod) (s : State) : Outcome State Fault Refusal :=
  .next (answer 0x04#8 p 2 (unlessHeld judgeResume) s)

/-! ## Finish, Extend, Close Session -/

/-- The judgement of Finish (R12). A finish posted at once is a wake of the P-link (R141). -/
def judgeFinish (s : State) : Answer :=
  if s.running || s.session.state == .paused then plain .accepted (enterDraining .pLink s)
  else plain .refusedState s

/-- FINISH (R12). -/
def execFinish (p : SelectPeriod) (s : State) : Outcome State Fault Refusal :=
  .next (answer 0x05#8 p 2 (onPOnly p judgeFinish) s)

/-- The effects of an Extend answered DONE (R14, R46, R125). -/
def extendSession (s : State) : State :=
  let s := s.onSession fun x => { x with runTime := 0, attempts := 0, movedCount := 0, geometryCount := 0 }
  let s := s.onResults fun r => { r with output := .empty }
  cadenceAfresh (enterRunning s)

/-- The judgement of Extend (R14). -/
def judgeExtend (s : State) : Answer :=
  if s.session.state == .finished && !s.subLimitMet then plain .done (extendSession s) else plain .refusedState s

/-- EXTEND (R14). -/
def execExtend (p : SelectPeriod) (s : State) : Outcome State Fault Refusal :=
  .next (answer 0x06#8 p 2 (onPOnly p (unlessHeld judgeExtend)) s)

/-- The sequencer at Close Session (R45). -/
def sequencerClose (s : State) : State :=
  let s := s.onLines fun l => { l with trigger := false, shutterClose := false }
  enterIdle (s.onSeq fun q => { q with shutterTimer := none, current := none, lightsSinceDark := 0 })

/-- The Sensor Port at Close Session (R58). -/
def portClose (s : State) : State :=
  s.onPort fun p => { p with
    readoutTimer := none
    reception := match p.reception with
      | .receiving _ => .discarding
      | r => r }

/-- The engine at Close Session: the marks are cleared, the job in progress is to be dropped at the end of its tile, one
without tiles at once (R122), and a preview pending or in progress ends DROPPED_CLOSE (R134). -/
def engineClose (s : State) : State :=
  let dropped := s.engine.previewPending || s.engine.job == .preview
  let s := s.onResults fun r => { r with
    output := .empty, preview := .empty, lastPreviewEnd := if dropped then some .droppedClose else r.lastPreviewEnd }
  let s := s.onEngine fun e => { e with clearPending := false, finishPending := false, previewPending := false }
  if s.tileless then freeEngine s else s.onEngine fun e => { e with stop := if e.job == .none then .none else .close }

/-- The Session Controller's items at Close Session (R1, R17). -/
def Session.closed (x : Session) : Session :=
  { x with
    referenceSet := false, attempts := 0, movedCount := 0, geometryCount := 0, runTime := 0
    pendingPlan := none, totals := Totals.zero }

/-- The effects of a Close Session answered DONE, in the order of R17; while a STANDBY request waits it is a wake in
DOZE (R141, R144). -/
def closeSession (s : State) : State :=
  let s := portClose (sequencerClose s)
  let s := s.emptyRing.onRing fun r => { r with lastOpened := 0, lastRetired := 0 }
  let s := engineClose s
  let s := s.onGuidance fun _ => Guidance.cleared
  let s := enterSession .idle (s.onSession Session.closed)
  if s.power.waiting then wake .pLink s else s

/-- The judgement of Close Session (R17). -/
def judgeClose (s : State) : Answer :=
  if s.session.state == .idle then plain .refusedState s else plain .done (closeSession s)

/-- CLOSE_SESSION (R17). -/
def execCloseSession (p : SelectPeriod) (s : State) : Outcome State Fault Refusal :=
  .next (answer 0x07#8 p 2 (onPOnly p judgeClose) s)

/-! ## Plans (section 1.8) -/

/-- A numeric field brought into its range, with its offset when that changed it (R20). -/
def numericField (offset raw lo hi : Nat) : Nat × List Nat :=
  (clampNat raw lo hi, if clampNat raw lo hi = raw then [] else [offset])

/-- A coded field, at its default with its offset when its code names no value (R20). -/
def codedField {α : Type} (offset : Nat) (named : Option α) (dflt : α) : α × List Nat :=
  match named with
  | some v => (v, [])
  | none => (dflt, [offset])

/-- The plan record that a Write Plan carries from offset 3, brought into range, with the offsets of the fields that
were changed (R19, R20, R170). -/
def clampedPlan (p : SelectPeriod) : Plan × List Nat :=
  let subLength := numericField 3 (fieldU32 p 3) 500 900000
  let gap := numericField 7 (fieldU32 p 7) 0 600000
  let mode := codedField 11 (triggerModeNamed (fieldU8 p 11)) .timed
  let subLimit := numericField 12 (fieldU16 p 12) 1 65535
  let duration := numericField 14 (fieldU16 p 14) 0 1440
  let autoFinish := codedField 16 (boolNamed (fieldU8 p 16)) true
  let cadence := numericField 17 (fieldU8 p 17) 0 255
  let darkMin := numericField 18 (fieldU8 p 18) 1 64
  let black := numericField 19 (fieldU16 p 19) 0 4095
  let k := numericField 21 (fieldU8 p 21) 16 160
  let nMin := numericField 22 (fieldU8 p 22) 3 64
  let v0 := numericField 23 (fieldU16 p 23) 0 65535
  let t := numericField 25 (fieldU16 p 25) 16 16383
  let rw := numericField 27 (fieldU8 p 27) 4 32
  let drift := numericField 28 (fieldU16 p 28) 16 1024
  let pedestal := numericField 30 (fieldU16 p 30) 0 4095
  let autoDoze := codedField 32 (boolNamed (fieldU8 p 32)) true
  let afterHold := codedField 33 (boolNamed (fieldU8 p 33)) true
  (⟨subLength.1, gap.1, mode.1, subLimit.1, duration.1, autoFinish.1, cadence.1, darkMin.1, black.1, k.1, nMin.1, v0.1,
      t.1, rw.1, drift.1, pedestal.1, autoDoze.1, afterHold.1⟩,
    subLength.2 ++ gap.2 ++ mode.2 ++ subLimit.2 ++ duration.2 ++ autoFinish.2 ++ cadence.2 ++ darkMin.2 ++ black.2 ++
      k.2 ++ nMin.2 ++ v0.2 ++ t.2 ++ rw.2 ++ drift.2 ++ pedestal.2 ++ autoDoze.2 ++ afterHold.2)

/-- A slot or index number that names one of `n`. -/
def indexNamed (n : Nat) (k : Nat) : Option (Fin n) := if h : k < n then some ⟨k, h⟩ else none

/-- The session states in which the active and the pending plan's slots are not written and a Select Plan is staged
(R20, R22). -/
def State.planLocked (s : State) : Bool :=
  s.running || s.session.state == .draining || s.session.state == .finishing

/-- The judgement of Write Plan (R20). -/
def judgeWritePlan (p : SelectPeriod) (s : State) : Answer :=
  match indexNamed 4 (fieldU8 p 2) with
  | none => refusedRange [2] s
  | some i =>
    if s.planLocked && (s.session.activePlan == i || s.session.pendingPlan == some i) then plain .refusedState s
    else
      let w := clampedPlan p
      doneOrClamped w.2 [] (s.onSession fun x => { x with plans := x.plans.set i w.1 })

/-- WRITE_PLAN (R20). -/
def execWritePlan (p : SelectPeriod) (s : State) : Outcome State Fault Refusal :=
  .next (answer 0x08#8 p 34 (onPOnly p (judgeWritePlan p)) s)

/-- The judgement of Read Plan (R21). -/
def judgeReadPlan (p : SelectPeriod) (s : State) : Answer :=
  match indexNamed 4 (fieldU8 p 2) with
  | none => refusedRange [2] s
  | some i => doneWith (readPlanPayload s i) s

/-- READ_PLAN (R21). -/
def execReadPlan (p : SelectPeriod) (s : State) : Outcome State Fault Refusal :=
  .next (answer 0x09#8 p 3 (judgeReadPlan p) s)

/-- A slot becomes the active plan at once; PLAN_SWITCHED is raised if the index changed (R2, R22). -/
def selectNow (i : Fin 4) (s : State) : State :=
  let changed := s.session.activePlan != i
  let s := s.onSession fun x => { x with activePlan := i, pendingPlan := none }
  if changed then raise .planSwitched s else s

/-- A slot is staged as the pending plan, or the pending index becomes absent (R22). -/
def stagePlan (i : Fin 4) (s : State) : State :=
  s.onSession fun x => { x with pendingPlan := if x.activePlan = i then none else some i }

/-- The judgement of Select Plan (R22). -/
def judgeSelectPlan (p : SelectPeriod) (s : State) : Answer :=
  match indexNamed 4 (fieldU8 p 2) with
  | none => refusedRange [2] s
  | some i => plain .done (if s.planLocked then stagePlan i s else selectNow i s)

/-- SELECT_PLAN (R22). -/
def execSelectPlan (p : SelectPeriod) (s : State) : Outcome State Fault Refusal :=
  .next (answer 0x0a#8 p 3 (judgeSelectPlan p) s)

/-! ## Part settings (section 1.9) -/

/-- The judgement of Set Part Settings (R25). -/
def judgeSetPartSettings (p : SelectPeriod) (s : State) : Answer :=
  if s.session.state == .idle then
    let reserve := numericField 2 (fieldU8 p 2) 5 120
    let wakes := codedField 3 (boolNamed (fieldU8 p 3)) true
    doneOrClamped (reserve.2 ++ wakes.2) []
      (s.onSession fun x => { x with holdReserve := reserve.1, remoteWake := wakes.1 })
  else plain .refusedState s

/-- SET_PART_SETTINGS (R25). -/
def execSetPartSettings (p : SelectPeriod) (s : State) : Outcome State Fault Refusal :=
  .next (answer 0x0b#8 p 4 (onPOnly p (judgeSetPartSettings p)) s)

/-- READ_PART_SETTINGS (R25). -/
def execReadPartSettings (p : SelectPeriod) (s : State) : Outcome State Fault Refusal :=
  .next (answer 0x0c#8 p 2 (fun s => doneWith (partSettingsPayload s) s) s)

/-! ## The Session Controller's own steps -/

/-- The duration limit is reached in a running state with auto finish set (R15). -/
def State.durationDue (s : State) : Bool := s.running && s.plan.autoFinish && s.durationMet

/-- DURATION_LIMIT_REACHED (R15). -/
def execDurationLimitReached (s : State) : Outcome State Fault Refusal :=
  .next (if s.durationDue then enterDraining .alarm s else s)

/-- DRAIN_COMPLETE (R13). -/
def execDrainComplete (s : State) : Outcome State Fault Refusal := .next (drainCheck .alarm s)

end Sys2Proof.Machine
end

