-- ==== Sys2Proof/Machine/GuidanceCommands.lean ====
section
/-! DEFINITION. The meanings of the commands of chapter 4: pose reports, the Guide Star Table, the reads of the
guidance state, and the completion of a light's measurement with everything it applies. -/

namespace Sys2Proof.Machine

open Host (Outcome)

/-! ## Report Pose (R72) -/

/-- The descriptor that a pose report names, if the report has a use for it (R72). -/
def State.poseTarget (s : State) (sub : Nat) : Option (Fin 6) :=
  (s.ring.carrying sub).filter fun i =>
    let d := s.ring.desc[i]
    d.kind == .light && (d.state == .exposing || d.state == .reading || d.state == .waiting)

/-- The judgement of Report Pose (R72). -/
def judgeReportPose (p : SelectPeriod) (s : State) : Answer :=
  match p.link with
  | .p => plain .refusedLink s
  | .s =>
    match qualityNamed (fieldU8 p 12) with
    | none => refusedRange [12] s
    | some q =>
      if !s.session.referenceSet then plain .refusedState s
      else
        match s.poseTarget (fieldU16 p 2) with
        | none => plain .stale s
        | some i =>
          plain .done
            (s.onDesc i fun d => { d with pose := .reported (fieldU16 p 4) (fieldS24 p 6) (fieldS24 p 9) q })

/-- REPORT_POSE (R72). -/
def execReportPose (p : SelectPeriod) (s : State) : Outcome State Fault Refusal :=
  .next (answer 0x13#8 p 13 (judgeReportPose p) s)

/-! ## Drop Star (R77, R78) -/

/-- Change one entry of the Guide Star Table. -/
def State.onStar (s : State) (i : Fin 24) (f : Star → Star) : State :=
  s.onGuidance fun g => { g with stars := g.stars.set i (f g.stars[i]) }

/-- An entry dropped, with the table change judged; an entry already VACANT changes nothing (R77, R78). -/
def dropStar (i : Fin 24) (s : State) : State :=
  if s.guidance.stars[i].state == .vacant then s
  else judgeTable (lockedCount s.guidance.stars) false (s.onStar i fun _ => Star.vacated)

/-- The judgement of Drop Star (R77). -/
def judgeDropStar (p : SelectPeriod) (s : State) : Answer :=
  match indexNamed 24 (fieldU8 p 2) with
  | none => refusedRange [2] s
  | some i =>
    if (s.ring.first fun d => d.state == .measuring).isSome then plain .busy s else plain .done (dropStar i s)

/-- DROP_STAR (R77). -/
def execDropStar (p : SelectPeriod) (s : State) : Outcome State Fault Refusal :=
  .next (answer 0x14#8 p 3 (judgeDropStar p) s)

/-! ## Reads (R88) -/

/-- READ_DRIFT (R88). -/
def execReadDrift (p : SelectPeriod) (s : State) : Outcome State Fault Refusal :=
  .next (answer 0x15#8 p 2 (fun s => doneWith (driftPayload s) s) s)

/-- READ_GUIDANCE (R88). -/
def execReadGuidance (p : SelectPeriod) (s : State) : Outcome State Fault Refusal :=
  .next (answer 0x16#8 p 2 (fun s => doneWith (guidancePayload s) s) s)

/-- READ_STAR_TABLE (R88). The model's counter of responses with meaningless bytes goes on by one. -/
def execReadStarTable (p : SelectPeriod) (s : State) : Outcome State Fault Refusal :=
  .next (answer 0x17#8 p 2 (fun s => doneWith (starTablePayload s) (s.onFree (· + 1))) s)

/-! ## Calibration choice (R100) -/

/-- The READY slot of a band, if any. -/
def DarkLibrary.readySlot (d : DarkLibrary) (band : Nat) : Option (Fin 4) :=
  d.first fun x => x.state == .ready && x.band == band

/-- The READY slot of the band below a band, if any. -/
def DarkLibrary.readyBelow (d : DarkLibrary) (band : Nat) : Option (Fin 4) :=
  if band = 0 then none else d.readySlot (band - 1)

/-- The calibration of a light of a band with the slot chosen (R100). -/
def DarkLibrary.calibrationFor (d : DarkLibrary) (band : Nat) : Calibration × Option (Fin 4) :=
  match d.readySlot band with
  | some i => (.exact, some i)
  | none =>
    match d.readyBelow band, d.readySlot (band + 1) with
    | some i, some j => (.neighbour, some (if d.slots[i].count < d.slots[j].count then j else i))
    | some i, none => (.neighbour, some i)
    | none, some j => (.neighbour, some j)
    | none, none => (.blackLevel, none)

/-- The band of a descriptor, from its temperature, which a WAITING descriptor always holds (R91). -/
def Descriptor.band (d : Descriptor) : Nat := bandOf (d.temperature.getD 0)

/-- The light of a descriptor with the slot its calibration chose (R101). -/
def State.lightOf (s : State) (i : Fin 6) (slot : Option (Fin 4)) : Light where
  width := s.port.width
  height := s.port.height
  bayer := s.port.bayer
  raw := s.dram.staging[i]
  dark := slot.map fun k => (s.darks.slots[k].count, s.dram.darkSums[k])
  blackLevel := s.ring.desc[i].snapshot.blackLevel
  tiles := s.tileMap

/-- The chosen calibration applied at the completion of the measurement (R100). -/
def applyCalibration (i : Fin 6) (c : Option (Calibration × Option (Fin 4))) (s : State) : State :=
  let sub := s.ring.desc[i].sub
  match c with
  | none => s
  | some (kind, slot) =>
    let s := s.onDesc i fun d => { d with calibration := some kind }
    match slot with
    | none => s
    | some k => touchSlot k sub s

/-! ## Pose resolution (R74) -/

/-- The mid-time of a sub (R68). -/
def Descriptor.midTime (d : Descriptor) : Clock := later d.start (d.exposure / 2)

/-- A value extrapolated linearly from the newer value `b` by the difference from the older, over `num / den` of the
interval, rounded half away from zero (R74). -/
def extrapolate (b diff : Int) (num den : Nat) : Int :=
  if den = 0 then Config.predictionOverNoInterval b diff else roundDiv (b * den + diff * num) den

/-- A predicted translation brought into its range (R74). -/
def clampTranslation (t : Int) : Int := clampInt t (-8388608) 8388607

/-- The pose predicted from the pose history, newest first, for a mid-time (R74). -/
def predictPose (history : List PoseEntry) (m : Clock) : Transform :=
  match history with
  | [] => ⟨0, 0, 0⟩
  | [b] => ⟨b.phi, b.tx, b.ty⟩
  | b :: a :: _ =>
    let num := elapsed b.midTime m
    let den := elapsed a.midTime b.midTime
    ⟨(extrapolate b.phi (angleDiff b.phi a.phi) num den % 65536).toNat,
      clampTranslation (extrapolate b.tx (b.tx - a.tx) num den),
      clampTranslation (extrapolate b.ty (b.ty - a.ty) num den)⟩

/-- The quality of a pose for the quality check; a pose that is not reported counts as STEADY (R74). -/
def Pose.quality : Pose → Quality
  | .reported _ _ _ q => q
  | .absent => .steady
  | .predicted _ _ _ => .steady

/-- The pose resolved for a descriptor, as a transform (R74). -/
def State.resolvedPose (s : State) (i : Fin 6) : Transform :=
  match s.ring.desc[i].pose with
  | .reported phi tx ty _ => ⟨phi, tx, ty⟩
  | _ => predictPose s.guidance.history s.ring.desc[i].midTime

/-- The entry of a REPORTED pose into the pose history (R74). -/
def historyWith (e : PoseEntry) (h : List PoseEntry) : List PoseEntry := (e :: h).take 2

/-- The resolved pose applied at the completion of the measurement: a REPORTED pose enters the history; a predicted
one is written into the descriptor, and POSE_LATE is raised (R74, R75). -/
def applyPose (i : Fin 6) (s : State) : State :=
  let d := s.ring.desc[i]
  match d.pose with
  | .reported phi tx ty q =>
    s.onGuidance fun g => { g with history := historyWith ⟨d.sub, d.midTime, phi, tx, ty, q⟩ g.history }
  | _ =>
    let t := s.resolvedPose i
    raise .poseLate (s.onDesc i fun d => { d with pose := .predicted t.phi t.tx t.ty })

/-! ## The Guide Star Table in a measurement (R82 to R86) -/

/-- The reference position that an entry holds, and gives up when a star is taken into it; a VACANT one holds none. -/
def Star.position (x : Star) : Option Position := if x.state == .vacant then none else some (x.refX, x.refY)

/-- The reference positions of the entries that are not VACANT. -/
def heldPositions (stars : Vector Star 24) : List Position := stars.toList.filterMap Star.position

/-- A LOST entry put behind every one with at least its miss count. -/
def insertByMisses (stars : Vector Star 24) (i : Fin 24) : List (Fin 24) → List (Fin 24)
  | [] => [i]
  | j :: js => if stars[j].missCount < stars[i].missCount then i :: j :: js else j :: insertByMisses stars i js

/-- The entries that a re-acquisition run may fill, in order: the VACANT ones, then the LOST ones by miss count
(R83). -/
def freeEntries (stars : Vector Star 24) : List (Fin 24) :=
  let vacant := (List.finRange 24).filter fun i => stars[i].state == .vacant
  let lost := (List.finRange 24).filter fun i => stars[i].state == .lost
  vacant ++ lost.foldl (fun sorted i => insertByMisses stars i sorted) []

/-- The free capacity of a referencing run: the 24 VACANT entries (R81). -/
def referencingEntries : List (Option Position) := List.replicate 24 none

/-- Taken stars written into entries (R82, R83). -/
def placeStars (sub : Nat) (residual : Option (Int × Int)) :
    List (Fin 24) → List TakenStar → Vector Star 24 → Vector Star 24
  | i :: is, t :: ts, stars => placeStars sub residual is ts (stars.set i (t.entry sub residual))
  | _, _, stars => stars

/-- The table after a re-acquisition run on a light (R83). -/
def reacquire (l : Light) (plan : Plan) (t : Transform) (sub : Nat) (stars : Vector Star 24) : Vector Star 24 :=
  let entries := freeEntries stars
  let taken := l.takeStars plan.windowRadius plan.starThreshold (t.inverse l.width l.height)
    (entries.map fun i => stars[i].position) (heldPositions stars) (l.candidates plan.starThreshold)
  placeStars sub none entries taken stars

/-- The residual and its result from the residuals of the found entries (R86). -/
def formResidual (driftLimit : Nat) (found : List (Int × Int)) : Option (Int × Int) × DriftResult :=
  if found.length < 3 then (none, .tooFew)
  else
    let ex := trimmedMean (found.map Prod.fst)
    let ey := trimmedMean (found.map Prod.snd)
    (some (ex, ey), if driftLimit < ex.natAbs ∨ driftLimit < ey.natAbs then .exceeded else .applied)

/-- The outcome that a measurement's result decides, with the transform of the merge (R75, R115). -/
def decidedOutcome (pose : Transform) (r : Option (Int × Int) × DriftResult) : SubOutcome × Option Transform :=
  match r with
  | (some (ex, ey), .applied) => (.merged, some ⟨pose.phi, pose.tx + ex, pose.ty + ey⟩)
  | (_, .tooFew) => (.groundOnly .noStars, none)
  | (_, _) => (.groundOnly .drift, none)

/-- The light goes on to the merge with its outcome decided (R63, R112). -/
def beginMerge (i : Fin 6) (o : SubOutcome) (aligned : Bool) (sky : Option Transform) (s : State) : State :=
  (s.onDesc i fun d => { d with state := .merging }).onEngine fun e =>
    { e with work := .merging o aligned sky, tilesDone := 0 }

/-- The drift record written, and DRIFT_READY raised (R87). -/
def writeDrift (d : DriftRecord) (s : State) : State :=
  raise .driftReady (s.onGuidance fun g => { g with drift := some d })

/-! ## The completion of a measurement (R75) -/

/-- A referencing attempt with too few stars (R82). -/
def referencingFailed (i : Fin 6) (s : State) : State := beginMerge i (.groundOnly .referenceFailed) false none s

/-- The light becomes the reference sub (R82). -/
def setReference (i : Fin 6) (taken : List TakenStar) (s : State) : State :=
  let d := s.ring.desc[i]
  let before := lockedCount s.guidance.stars
  let s := s.onGuidance fun g => { g with
    stars := placeStars d.sub (some (0, 0)) (List.finRange 24) taken g.stars
    reference := some ⟨d.sub, d.midTime⟩ }
  let s := s.onDesc i fun d => { d with residual := some (0, 0), matched := taken.length }
  let s := s.onSession fun x => { x with referenceSet := true }
  let s := if s.session.state == .referencing then enterSession .integrating s else s
  let s := writeDrift ⟨d.sub, some (0, 0), taken.length, .reference, .applied⟩ s
  let s := judgeTable before true (raise .referenceSet s)
  beginMerge i .merged false (some Transform.identity) s

/-- The completion of a referencing attempt (R75, R82). -/
def completeReferencing (i : Fin 6) (c : Option (Calibration × Option (Fin 4))) (s : State) : State :=
  let plan := s.ring.desc[i].snapshot
  let l := s.lightOf i (c.bind Prod.snd)
  let taken := l.takeStars plan.windowRadius plan.starThreshold id referencingEntries
    (heldPositions s.guidance.stars) (l.candidates plan.starThreshold)
  let s := applyCalibration i c s
  if taken.length < 6 then referencingFailed i s else setReference i taken s

/-- The star measurement, the residual and the re-acquisition run of a STEADY light, applied (R75 steps 3 to 6). -/
def completeSteady (i : Fin 6) (c : Option (Calibration × Option (Fin 4))) (s : State) : State :=
  let d := s.ring.desc[i]
  let plan := d.snapshot
  let pose := s.resolvedPose i
  let source := match d.pose with
    | .reported _ _ _ _ => PoseSource.reported
    | _ => PoseSource.predicted
  let l := s.lightOf i (c.bind Prod.snd)
  let stars := s.guidance.stars
  let found := stars.toList.filterMap fun x =>
    (l.findStar pose plan.windowRadius plan.starThreshold x).map Prod.snd
  let measured := stars.map (l.measureStar pose plan.windowRadius plan.starThreshold d.sub)
  let r := formResidual plan.driftLimit found
  let decided := decidedOutcome pose r
  let table := match s.guidance.reacquisitionDue, decided.2 with
    | true, some t => reacquire l plan t d.sub measured
    | _, _ => measured
  let s := applyCalibration i c (applyPose i s)
  let s := s.onGuidance fun g => { g with stars := table }
  let s := s.onDesc i fun d => { d with residual := r.1, matched := found.length }
  let s := writeDrift ⟨d.sub, r.1, found.length, source, r.2⟩ s
  let s := if table = stars then s else judgeTable (lockedCount stars) false s
  beginMerge i decided.1 true decided.2 s

/-- The completion of an aligned measurement: SHAKEN and MOVED retire the light at once (R75). -/
def completeAligned (i : Fin 6) (c : Option (Calibration × Option (Fin 4))) (s : State) : State :=
  match s.ring.desc[i].pose.quality with
  | .steady => completeSteady i c s
  | .shaken => endJob (retire i (.rejected .shake) true (applyPose i s))
  | .moved => endJob (retire i (.rejected .moved) true (applyPose i s))

/-- A measurement completes: its results are applied together (R75). -/
def completeMeasurement (i : Fin 6) (aligned : Bool) (c : Option (Calibration × Option (Fin 4))) (s : State) : State :=
  if aligned then completeAligned i c s else completeReferencing i c s

/-- MEASUREMENT_COMPLETE (R75). A measurement that a hold or a close is stopping ends there with none of its results
applied (R121, R122; assumption 11). -/
def execMeasurementComplete (s : State) : Outcome State Fault Refusal :=
  .next (match s.engine.job, s.engine.work, s.engine.stop with
    | .descriptor i, .measuring aligned c, .none => if s.powered then completeMeasurement i aligned c s else s
    | .descriptor _, .measuring _ _, _ => takeStop s
    | _, _, _ => s)

end Sys2Proof.Machine
end

