-- ==== Sys2Proof/Machine/DarkCommands.lean ====
section
/-! DEFINITION. The meanings of the commands of chapter 5: Clear Dark Slot, Read Dark Library and the completion of a
dark merge, with the choice of a dark's slot. -/

namespace Sys2Proof.Machine

open Host (Outcome)

/-- The judgement of Clear Dark Slot (R97). -/
def judgeClearDarkSlot (p : SelectPeriod) (s : State) : Answer :=
  match indexNamed 4 (fieldU8 p 2) with
  | none => refusedRange [2] s
  | some i =>
    if s.darks.mergeTarget == some i || s.darks.inUse == some i then plain .busy s
    else plain .done (emptySlot i s)

/-- CLEAR_DARK_SLOT (R97). -/
def execClearDarkSlot (p : SelectPeriod) (s : State) : Outcome State Fault Refusal :=
  .next (answer 0x18#8 p 3 (onPOnly p (judgeClearDarkSlot p)) s)

/-- READ_DARK_LIBRARY (R99). The model's counter of responses with meaningless bytes goes on by one. -/
def execReadDarkLibrary (p : SelectPeriod) (s : State) : Outcome State Fault Refusal :=
  .next (answer 0x19#8 p 2 (fun s => doneWith (darkLibraryPayload s) (s.onFree (· + 1))) s)

/-! ## The slot of a dark (R93, R94) -/

/-- The slot chosen for a dark at its taking: the slot that has the band, a slot taken EMPTY, a READY slot taken by
replacement, or none. -/
inductive SlotChoice where
  | sameBand (i : Fin 4)
  | taken (i : Fin 4)
  | none
  deriving DecidableEq, Repr

/-- The slot that holds darks of a band, if any. -/
def DarkLibrary.slotOfBand (d : DarkLibrary) (band : Nat) : Option (Fin 4) :=
  d.first fun x => x.state != .empty && x.band == band

/-- The first READY slot of the use order, if any. -/
def DarkLibrary.replaceable (d : DarkLibrary) : Option (Fin 4) :=
  d.useOrder.find? fun i => d.slots[i].state == .ready

/-- The slot chosen for a dark of a band (R93). -/
def DarkLibrary.choose (d : DarkLibrary) (band : Nat) : SlotChoice :=
  match d.slotOfBand band, d.first (fun x => x.state == .empty), d.replaceable with
  | some i, _, _ => .sameBand i
  | none, some i, _ => .taken i
  | none, none, some i => .taken i
  | none, none, none => .none

/-- A slot taken EMPTY or by replacement (R93). Its last-used sub number is not written here (R92): a slot taken by
replacement keeps its old one until its first dark is merged. A slot taken EMPTY has none to keep and keeps the 0 of
`DarkSlot.emptied`, which stands for "not written" and which no read shows (assumption 39). -/
def takeSlot (i : Fin 4) (band : Nat) (s : State) : State :=
  (s.onSlot i fun x => { x with state := .building, band := band, count := 0 }).onDarks fun d => { d with useOrder := d.useOrder.erase i }

/-- The dark merge begins: the slot is the merge target (R93). -/
def beginDarkMerge (i : Fin 4) (s : State) : State :=
  (s.onDarks fun d => { d with mergeTarget := some i }).onEngine fun e => { e with work := .darkMerging }

/-- A dark taken into MERGING by the engine, whose job already names it: merged into a slot, or discarded at once
(R93, R94). -/
def takeDark (i : Fin 6) (s : State) : State :=
  let d := s.ring.desc[i]
  let s := s.onDesc i fun d => { d with state := .merging }
  match s.darks.choose d.band with
  | .sameBand k =>
    if 64 ≤ s.darks.slots[k].count then
      endJob (retire i (.darkDiscarded .slotFull) false (touchSlot k d.sub s))
    else beginDarkMerge k s
  | .taken k => beginDarkMerge k (takeSlot k d.band s)
  | .none => endJob (retire i (.darkDiscarded .noSlot) false s)

/-! ## The completion of a dark merge (R95) -/

/-- Steps 1 to 4 at the completion of a dark merge (R95). -/
def completeSlot (k : Fin 4) (d : Descriptor) (s : State) : State :=
  let s := s.onSlot k fun x => { x with
    count := x.count + 1
    state := if d.snapshot.darkMinimum ≤ x.count + 1 then .ready else .building }
  (touchSlot k d.sub s).onDarks fun l => { l with mergeTarget := none }

/-- The dark merge completes, and the dark retires DARK_MERGED (R95). -/
def completeDarkMerge (i : Fin 6) (s : State) : State :=
  let d := s.ring.desc[i]
  let s := match s.darks.mergeTarget with
    | none => s
    | some k => completeSlot k d s
  endJob (retire i .darkMerged false s)

/-- DARK_MERGE_COMPLETE (R95). -/
def execDarkMergeComplete (s : State) : Outcome State Fault Refusal :=
  .next (match s.engine.job, s.engine.work with
    | .descriptor i, .darkMerging =>
      if !s.tilesOver then s else if s.engine.stop == .close then closeStop s else completeDarkMerge i s
    | _, _ => s)

end Sys2Proof.Machine
end

