-- ==== Sys2Proof/Machine/EngineCommands.lean ====
section
/-! DEFINITION. The meanings of the commands of chapter 6: the Tile Map's requests, Read Engine, the engine's taking of
a job, and the completion of a tile, of a plane clear and of a light's merge. -/

namespace Sys2Proof.Machine

open Host (Outcome)

/-! ## Write Tiles and Read Tiles (R104, R105) -/

/-- An entry as a Write Tiles carries it, brought into range, with whether that changed it (R104). -/
def clampedEntry (classCode weight : Nat) : TileEntry × Bool :=
  match tileClassNamed classCode with
  | some c => (⟨c, min weight 16⟩, decide (16 < weight))
  | none => (⟨.sky, min weight 16⟩, true)

/-- Entry number `k` of a Write Tiles (R177). -/
def carriedEntry (p : SelectPeriod) (k : Nat) : TileEntry × Bool :=
  clampedEntry (fieldU8 p (6 + 2 * k)) (fieldU8 p (7 + 2 * k))

/-- The effects and the answer of a Write Tiles whose fields are in range: `count` entries from tile `first` on (R104,
R177). The field list is empty with either answer. -/
def writeTiles (p : SelectPeriod) (first count : Nat) (s : State) : Answer :=
  let written := min count (s.tileCount - first)
  let entries := (List.range written).map (carriedEntry p)
  let changed := (List.range written).filter fun k => (carriedEntry p k).2
  let s := s.onTileMap fun m => regionWriteRun TileEntry.default m first (entries.map Prod.fst)
  ⟨s, if written = count ∧ changed = [] then .done else .doneClamped, [],
    u16 written ++ u16 changed.length ++ changed.flatMap (fun k => u16 (first + k)), none⟩

/-- The fields of a Write Tiles that are out of range: the first tile index and an empty list (R104). -/
def writeTilesOutOfRange (first count tiles : Nat) : List Nat :=
  (if tiles ≤ first then [2] else []) ++ (if count = 0 then [4] else [])

/-- The judgement of Write Tiles (R104). -/
def judgeWriteTiles (p : SelectPeriod) (s : State) : Answer :=
  let first := fieldU16 p 2
  let count := fieldU16 p 4
  if s.session.state == .idle || s.session.state == .armed then
    match writeTilesOutOfRange first count s.tileCount with
    | [] => writeTiles p first count s
    | fields => refusedRange fields s
  else plain .refusedState s

/-- WRITE_TILES (R104). The bytes it needs are those its entry count calls for (R154, R177). -/
def execWriteTiles (p : SelectPeriod) (s : State) : Outcome State Fault Refusal :=
  .next (answer 0x1a#8 p (6 + 2 * fieldU16 p 4) (onPOnly p (judgeWriteTiles p)) s)

/-- The entries of `count` tiles from tile `first` on, cut short at the last tile (R105). -/
def State.tileRun (s : State) (first count : Nat) : List TileEntry :=
  (List.range (min count (s.tileCount - first))).map fun k => regionRead TileEntry.default s.tileMap (first + k)

/-- The judgement of Read Tiles (R105, R177). -/
def judgeReadTiles (p : SelectPeriod) (s : State) : Answer :=
  let first := fieldU16 p 2
  let raw := fieldU16 p 4
  let count := clampNat raw 1 512
  if s.tileCount ≤ first then refusedRange [2] s
  else
    let entries := s.tileRun first count
    doneOrClamped (if count = raw then [] else [4]) (u16 entries.length ++ entries.flatMap tileRecord) s

/-- READ_TILES (R105). -/
def execReadTiles (p : SelectPeriod) (s : State) : Outcome State Fault Refusal :=
  .next (answer 0x1b#8 p 6 (judgeReadTiles p) s)

/-- READ_ENGINE (R124). -/
def execReadEngine (p : SelectPeriod) (s : State) : Outcome State Fault Refusal :=
  .next (answer 0x1c#8 p 2 (fun s => doneWith (enginePayload s) s) s)

/-! ## The taking of a job (R110, R112) -/

/-- The engine's current job and what it carries, with no tile done (R110). -/
def setJob (j : Job) (w : Work) (s : State) : State :=
  s.onEngine fun e => { e with job := j, work := w, tilesDone := 0 }

/-- A plane clear is taken: neither the output plane nor the preview buffer holds anything (R113, R125). -/
def takeClear (s : State) : State :=
  setJob .planeClear .none (emptyMarkers (s.onEngine fun e => { e with clearPending := false }))

/-- A finish is taken: the output marker becomes EMPTY and the pedestal is read from the active plan (R125, R128). -/
def takeFinish (s : State) : State :=
  let s := s.onEngine fun e => { e with finishPending := false }
  setJob .finish .none (s.onResults fun r => { r with output := .empty, pedestal := s.plan.outputPedestal })

/-- A preview is taken: the preview marker becomes EMPTY, and the totals and the pedestal are noted for the stamp
(R134). -/
def takePreview (s : State) : State :=
  let t := s.session.totals
  let s := s.onEngine fun e => { e with previewPending := false }
  setJob .preview (.preview ⟨t.lightsMerged, t.lightsGroundOnly, t.skyMs, s.plan.outputPedestal⟩)
    (s.onResults fun r => { r with preview := .empty })

/-- A light is taken into MEASURING. A light on the referencing path, and one on the aligned path whose quality passes
the check, has its calibration chosen and the calibration in use set; SHAKEN and MOVED are not calibrated (R75,
R100, R112). -/
def takeLight (i : Fin 6) (s : State) : State :=
  let d := s.ring.desc[i]
  let aligned := s.session.referenceSet
  let s := s.onDesc i fun d => { d with state := .measuring }
  if !aligned || d.pose.quality == .steady then
    let c := s.darks.calibrationFor d.band
    setJob (.descriptor i) (.measuring aligned (some c)) (s.onDarks fun l => { l with inUse := c.2 })
  else setJob (.descriptor i) (.measuring aligned none) s

/-- A WAITING descriptor is taken by its kind (R63, R112). -/
def takeDescriptor (i : Fin 6) (s : State) : State :=
  match s.ring.desc[i].kind with
  | .light => takeLight i s
  | .dark => takeDark i (setJob (.descriptor i) .none s)

/-- A Read Preview bulk read is in progress (R110). -/
def State.previewRead (s : State) : Bool := s.pLink.bulkRead.any fun b => b.stream == .preview

/-- The engine takes the first piece of work of the job order, if there is any (R110). -/
def takeJob (s : State) : State :=
  if s.engine.clearPending then takeClear s
  else if s.engine.finishPending then takeFinish s
  else if s.engine.previewPending && !s.previewRead then takePreview s
  else
    match s.ring.nextWaiting with
    | some i => takeDescriptor i s
    | none => s

/-- The engine may take a job: it is powered, with no job and no stop request (R110). -/
def State.engineFree (s : State) : Bool := s.powered && s.engine.job == .none && s.engine.stop == .none

/-- The engine takes a job at this moment (R110). -/
def State.takingDue (s : State) : Bool :=
  s.engineFree && (s.engine.clearPending || s.engine.finishPending || (s.engine.previewPending && !s.previewRead) ||
    s.ring.nextWaiting.isSome)

/-- ENGINE_TAKES_JOB (R110). -/
def execEngineTakesJob (s : State) : Outcome State Fault Refusal :=
  .next (if s.engineFree then takeJob s else s)

/-! ## The completion of a tile (R113, R114, R128, R134) -/

/-- The planes as the finish and the preview read them. -/
def State.planes (s : State) : Planes := ⟨s.port.width, s.port.bayer, s.tileMap, s.dram.sky, s.dram.ground⟩

/-- One tile of a plane clear (R113). -/
def clearOneTile (t : Nat) (s : State) : State :=
  let w := s.port.width
  s.onDram fun m => { m with sky := clearTile w t m.sky, ground := clearTile w t m.ground }

/-- One tile of a light's merge: the planes, the descriptor's counts and the rejected cells total (R114 to R119). -/
def mergeOneTile (i : Fin 6) (sky : Option Transform) (t : Nat) (s : State) : State :=
  let d := s.ring.desc[i]
  let acc := (s.lightOf i s.darks.inUse).mergeTile d.snapshot sky t
    ⟨s.dram.sky, s.dram.ground, d.mergedSky, d.mergedGround, 0⟩
  let s := s.onDram fun m => { m with sky := acc.sky, ground := acc.ground }
  let s := s.onDesc i fun d => { d with
    mergedSky := acc.mergedSky, mergedGround := acc.mergedGround, rejectedCells := d.rejectedCells + acc.rejected }
  s.onSession fun x => { x with totals := { x.totals with rejectedCells := x.totals.rejectedCells + acc.rejected } }

/-- One tile of a dark merge into its slot's sums, written where the slot was taken EMPTY or by replacement, so that
its count is 0, and added otherwise (R95). -/
def darkOneTile (i : Fin 6) (t : Nat) (s : State) : State :=
  match s.darks.mergeTarget with
  | none => s
  | some k =>
    let fresh := s.darks.slots[k].count == 0
    s.onDram fun m => { m with
      darkSums := m.darkSums.set k (darkMergeTile s.port.width s.port.bayer m.staging[i] fresh t m.darkSums[k]) }

/-- One tile of a finish (R128). -/
def finishOneTile (t : Nat) (s : State) : State :=
  s.onDram fun m => { m with output := s.planes.finishTile s.results.pedestal t m.output }

/-- One tile of a preview (R134). -/
def previewOneTile (pedestal t : Nat) (s : State) : State :=
  s.onDram fun m => { m with preview := s.planes.previewTile pedestal t m.preview }

/-- The work of one tile of the current job. A measurement applies its results at its completion alone (R112). -/
def tileWork (s : State) : State :=
  let t := s.engine.tilesDone
  match s.engine.job, s.engine.work with
  | .planeClear, _ => clearOneTile t s
  | .finish, _ => finishOneTile t s
  | .preview, .preview note => previewOneTile note.pedestal t s
  | .descriptor i, .merging _ _ sky => mergeOneTile i sky t s
  | .descriptor i, .darkMerging => darkOneTile i t s
  | _, _ => s

/-- A tile counted. -/
def countTile (s : State) : State :=
  let measuring := s.measuring
  s.onEngine fun e => { e with tilesDone := if measuring then 0 else e.tilesDone + 1 }

/-- A tile completes, and a hold that waits for it takes effect: a measurement and a job with a tile left stop there; a
job that has done its last tile completes as it would without the stop (R121). -/
def completeTile (s : State) : State :=
  let s := countTile (tileWork s)
  if s.engine.stop == .hold && (s.measuring || !s.tilesOver) then holdStop s else s

/-- ENGINE_TILE_COMPLETE (R114): the tile's accesses come by the arbiter's grants (R108), and a tile that gets none does
not complete. The tile in progress at a close ends its job with no result applied (R122). -/
def execEngineTileComplete (s : State) : Outcome State Fault Refusal :=
  .next (if s.onTile then
      if s.engine.stop == .close then closeStop s
      else whenServed .engine completeTile s
    else s)

/-! ## Completions (R113, R120) -/

/-- The engine's job ends by its completion, or, when a close has asked it to stop, without one (R122). -/
def completeJob (complete : State → State) (s : State) : State :=
  if !s.tilesOver then s else if s.engine.stop == .close then closeStop s else complete s

/-- The plane clear completes; an ARMING session becomes ARMED (R4, R113). -/
def clearCompletes (s : State) : State :=
  let s := endJob s
  if s.session.state == .arming then enterSession .armed s else s

/-- PLANE_CLEAR_COMPLETE (R113). -/
def execPlaneClearComplete (s : State) : Outcome State Fault Refusal :=
  .next (if s.engine.job == .planeClear then completeJob clearCompletes s else s)

/-- A light's merge completes: the light is retired with the outcome its measurement decided (R102, R120). -/
def mergeCompletes (i : Fin 6) (o : SubOutcome) (aligned : Bool) (s : State) : State :=
  endJob (retire i o aligned (clearInUse s))

/-- LIGHT_MERGE_COMPLETE (R120). -/
def execLightMergeComplete (s : State) : Outcome State Fault Refusal :=
  .next (match s.engine.job, s.engine.work with
    | .descriptor i, .merging o aligned _ => completeJob (mergeCompletes i o aligned) s
    | _, _ => s)

end Sys2Proof.Machine
end

