-- ==== Sys2Proof/Machine/ExposureCommands.lean ====
section
/-! DEFINITION. The meanings of the commands of chapter 2: the sequencer's requests, the REMOTE and SHUTTER_CLOSED
lines, and the part's own steps of the Exposure Sequencer. A step whose moment has not come is no step: it changes
nothing (assumption 9). -/

namespace Sys2Proof.Machine

open Host (Outcome)

/-! ## Requests -/

/-- READ_SEQUENCER (R29). -/
def execReadSequencer (p : SelectPeriod) (s : State) : Outcome State Fault Refusal :=
  .next (answer 0x0d#8 p 2 (fun s => doneWith (sequencerPayload s) s) s)

/-- The judgement of Trigger Sub (R35). -/
def judgeTriggerSub (s : State) : Answer :=
  if !s.running then plain .refusedState s
  else if s.mode != .single then plain .refusedState s
  else if s.canStart then plain .accepted (makeStart s)
  else plain .busy s

/-- TRIGGER_SUB (R35). -/
def execTriggerSub (p : SelectPeriod) (s : State) : Outcome State Fault Refusal :=
  .next (answer 0x0e#8 p 2 judgeTriggerSub s)

/-! ## REMOTE (R38) -/

/-- A change of level on REMOTE restarts the debounce interval; in HOLD the sequencer does not debounce (R38, R47). -/
def remoteChanged (low : Bool) (s : State) : State :=
  let s := s.onLines fun l => { l with remoteLow := low }
  s.onSeq fun q => { q with
    debounceTimer :=
      if low == q.remotePressed || s.power.state == .hold then none else some (later q.clock 20) }

/-- REMOTE_LINE_CHANGE (R38). -/
def execRemoteLineChange (low : Bool) (s : State) : Outcome State Fault Refusal :=
  .next (if s.lines.remoteLow == low then s else remoteChanged low s)

/-- The debounce interval has run out with REMOTE at a level (R38). -/
def State.debounceDue (s : State) (low : Bool) : Bool :=
  s.power.state != .hold && s.lines.remoteLow == low && s.seq.remotePressed != low &&
    s.seq.debounceTimer == some s.now

/-- The debounced REMOTE state takes the line's level. -/
def debounced (pressed : Bool) (s : State) : State :=
  s.onSeq fun q => { q with remotePressed := pressed, debounceTimer := none }

/-- The Power Controller's use of a press (R38): a wake from DOZE, a wake from STANDBY with remote wake on, and the
end of a waiting request (R141, R144, R146). -/
def pressPower (s : State) : State :=
  let s := giveUpWaiting .woken (wake .remote s)
  if s.session.remoteWake then standbyWake .remote s else s

/-- The meaning of a press to the session and the sequencer, by trigger mode and session state (R38). -/
def pressSession (s : State) : State :=
  match s.mode with
  | .timed =>
    if s.running then pauseSession .remote s
    else if s.session.state == .paused then resumeSession s
    else s
  | .single => if s.canStart then makeStart s else s
  | .remoteEdge => if s.canStart then makeStart s else s
  | .remoteGate => if s.canStart then makeStart s else s

/-- A press (R38). R38 delivers it to the Power Controller, the Session Controller and the sequencer, and neither R38 nor
R141 says which of them acts first. The model takes the Power Controller's use first (DESIGN CHOICE, assumption 37): a
press in a settled DOZE leaves the last wake cause REMOTE though it drains the session at once, and in an entry to DOZE
the ALARM of the finish that the drain posts comes after the press's own REMOTE and stands. -/
def remotePress (s : State) : State := pressSession (pressPower (debounced true s))

/-- REMOTE_PRESS (R38). -/
def execRemotePress (s : State) : Outcome State Fault Refusal :=
  .next (if s.debounceDue true then remotePress s else s)

/-- A release in a REMOTE_GATE light ends one that has run for 500 ms or more, and is kept by one that has not, which
then ends when it has run 500 ms (R37). -/
def releaseGate (c : CurrentExposure) (s : State) : State :=
  if 500 ≤ elapsed c.start s.now then endExposure c s
  else s.onSeq fun q => { q with current := some { c with released := true } }

/-- A release has an effect on the sequencer during a REMOTE_GATE light alone (R37, R38). -/
def remoteRelease (s : State) : State :=
  let s := debounced false s
  match s.seq.phase, s.seq.current with
  | .exposing, some c => if s.isGateLight c then releaseGate c s else s
  | _, _ => s

/-- REMOTE_RELEASE (R37, R38). -/
def execRemoteRelease (s : State) : Outcome State Fault Refusal :=
  .next (if s.debounceDue false then remoteRelease s else s)

/-! ## SHUTTER_CLOSED (R40, R41) -/

/-- SHUTTER_CLOSED asserts: in WAIT_SHUTTER the dark opens (R40). -/
def shutterClosedAsserts (s : State) : State :=
  let s := s.onLines fun l => { l with shutterClosed := true }
  if s.seq.phase == .waitShutter then openSub .dark s else s

/-- SHUTTER_CLOSED_ASSERT (R40). -/
def execShutterClosedAssert (s : State) : Outcome State Fault Refusal :=
  .next (if s.lines.shutterClosed then s else shutterClosedAsserts s)

/-- SHUTTER_CLOSED deasserts: in WAIT_OPEN the wait ends (R41). -/
def shutterClosedDeasserts (s : State) : State :=
  let s := s.onLines fun l => { l with shutterClosed := false }
  if s.seq.phase == .waitOpen then coverOpen s else s

/-- SHUTTER_CLOSED_DEASSERT (R41). -/
def execShutterClosedDeassert (s : State) : Outcome State Fault Refusal :=
  .next (if s.lines.shutterClosed then shutterClosedDeasserts s else s)

/-! ## The sequencer's own steps -/

/-- The Cadence Timer expires now (R28). -/
def State.cadenceDue (s : State) : Bool := s.seq.cadenceTimer == some s.now

/-- An expiry of the Cadence Timer makes the start, or is kept (R34). -/
def cadenceExpires (s : State) : State :=
  if s.mode == .timed && s.canStart then makeStart s
  else s.onSeq fun q => { q with cadenceTimer := none, keptExpiry := true }

/-- CADENCE_TIMER_EXPIRY (R34). -/
def execCadenceTimerExpiry (s : State) : Outcome State Fault Refusal :=
  .next (if s.cadenceDue then cadenceExpires s else s)

/-- A kept expiry makes its start now (R31, R34). -/
def State.startDue (s : State) : Bool := s.mode == .timed && s.seq.keptExpiry && s.canStart

/-- SEQUENCER_START (R31, R34). -/
def execSequencerStart (s : State) : Outcome State Fault Refusal :=
  .next (if s.startDue then makeStart s else s)

/-- The current exposure, when it ends now (R33, R37). -/
def State.endingExposure (s : State) : Option CurrentExposure :=
  if s.seq.phase == .exposing then s.seq.current.filter s.exposureOver else none

/-- EXPOSURE_END (R33). -/
def execExposureEnd (s : State) : Outcome State Fault Refusal :=
  .next (match s.endingExposure with
    | some c => endExposure c s
    | none => s)

/-- The shutter timer expires now in a phase (R28). -/
def State.shutterDue (s : State) (phase : Phase) : Bool :=
  s.seq.phase == phase && s.seq.shutterTimer == some s.now

/-- SHUTTER_FAULT with its record (R29, R40, R41). -/
def shutterFault (f : ShutterFault) (s : State) : State :=
  raise .shutterFault (s.onSeq fun q => { q with shutterTimer := none, lastFault := some (f, q.clock) })

/-- A close timeout: the dark is given up and a light opens in its place (R40). -/
def closeTimesOut (s : State) : State :=
  let s := releaseShutter s
  let s := s.onSeq fun q => { q with lightsSinceDark := 0 }
  openSub .light (shutterFault .closeTimeout s)

/-- CLOSE_TIMEOUT (R40). -/
def execCloseTimeout (s : State) : Outcome State Fault Refusal :=
  .next (if s.shutterDue .waitShutter then closeTimesOut s else s)

/-- An open timeout: a running session pauses, and the sequencer enters IDLE (R41). -/
def openTimesOut (s : State) : State :=
  let s := shutterFault .openTimeout s
  enterIdle (if s.running then pauseSession .shutter s else s)

/-- OPEN_TIMEOUT (R41). -/
def execOpenTimeout (s : State) : Outcome State Fault Refusal :=
  .next (if s.shutterDue .waitOpen then openTimesOut s else s)

/-- The wake alarm fires now (R28, R42). -/
def State.alarmDue (s : State) : Bool := s.seq.wakeAlarm == some s.now

/-- WAKE_ALARM_FIRES (R42). -/
def execWakeAlarmFires (s : State) : Outcome State Fault Refusal :=
  .next (if s.alarmDue then wake .alarm (s.onSeq fun q => { q with wakeAlarm := none }) else s)

end Sys2Proof.Machine
end

