-- ==== Sys2Proof/Machine/LinkCommands.lean ====
section
/-! DEFINITION. The meanings of the commands of chapter 9: the event requests, Read Status, an unknown request and a
collection. -/

namespace Sys2Proof.Machine

open Host (Outcome)

/-! ## Event requests (R162 to R165) -/

/-- READ_EVENTS (R162). -/
def execReadEvents (p : SelectPeriod) (s : State) : Outcome State Fault Refusal :=
  .next (answer 0x24#8 p 2 (fun s => doneWith (eventsPayload (s.link p.link)) s) s)

/-- The judgement of Acknowledge Events: the response shows the sets after the removal (R163). -/
def judgeAcknowledge (p : SelectPeriod) (s : State) : Answer :=
  let s := s.onLink p.link (LinkState.acknowledged (fieldEvents p 2))
  doneWith (acknowledgePayload (s.link p.link)) s

/-- ACKNOWLEDGE_EVENTS (R163). -/
def execAcknowledgeEvents (p : SelectPeriod) (s : State) : Outcome State Fault Refusal :=
  .next (answer 0x25#8 p 4 (judgeAcknowledge p) s)

/-- SET_EVENT_ENABLE (R164). -/
def execSetEventEnable (p : SelectPeriod) (s : State) : Outcome State Fault Refusal :=
  .next (answer 0x26#8 p 4 (fun s => plain .done (s.onLink p.link (LinkState.enabled (fieldEvents p 2)))) s)

/-- The group order that a Set Event Order carries, if its four codes name every group once (R165, R179). -/
def orderNamed (p : SelectPeriod) : Option (List EventGroup) :=
  let groups := [2, 3, 4, 5].filterMap fun k => groupNamed (fieldU8 p k)
  if groups.length = 4 ∧ groups.Nodup then some groups else none

/-- The judgement of Set Event Order (R165). -/
def judgeSetEventOrder (p : SelectPeriod) (s : State) : Answer :=
  match orderNamed p with
  | none => refusedRange [2] s
  | some order => plain .done (s.onLink p.link fun l => { l with order := order })

/-- SET_EVENT_ORDER (R165). -/
def execSetEventOrder (p : SelectPeriod) (s : State) : Outcome State Fault Refusal :=
  .next (answer 0x27#8 p 6 (judgeSetEventOrder p) s)

/-- READ_STATUS (R166). -/
def execReadStatus (p : SelectPeriod) (s : State) : Outcome State Fault Refusal :=
  .next (answer 0x28#8 p 2 (fun s => doneWith (statusPayload p.link s) s) s)

/-! ## Unknown requests and collections (R154, R156) -/

/-- UNKNOWN_REQUEST (R154). Only a code that names no request and is not the collect code makes one (R167). -/
def execUnknownRequest (code : Byte) (p : SelectPeriod) (s : State) : Outcome State Fault Refusal :=
  .next (if isRequestCode code || code == collectCode then s else answer code p 1 (plain .unknown) s)

/-- What the part sends in a collection of `clocks` clocks after the collect code: the bytes at hand, then idle bytes
(R156). -/
def sentBytes (bytes : List Byte) (clocks : Nat) : List Byte :=
  bytes.take clocks ++ List.replicate (clocks - bytes.length) 0xff#8

/-- A link after a collection (R156). -/
def LinkState.collected (clocks : Nat) (l : LinkState) : LinkState :=
  match l.response with
  | none => { l with sent := sentBytes [0x5a#8] clocks }
  | some ⟨_, some _⟩ => { l with sent := sentBytes [0xa5#8] clocks }
  | some ⟨r, none⟩ =>
    { l with
      response := if r.bytes.length ≤ clocks then none else some ⟨r, none⟩
      sent := sentBytes r.bytes clocks }

/-- COLLECTION (R156). -/
def execCollection (link : Link) (clocks : Nat) (s : State) : Outcome State Fault Refusal :=
  .next (s.onLink link (LinkState.collected clocks))

end Sys2Proof.Machine
end

