-- ==== Sys2Proof/Machine/PowerCommands.lean ====
section
/-! DEFINITION. The meanings of the commands of chapter 8: Set Power, Set Stay Awake, Read Power, the supply hold and its
ends, the entry to DOZE, the completion of a transition, and the waiting request. -/

namespace Sys2Proof.Machine

open Host (Outcome)

/-! ## Set Power (R143) -/

/-- The state a Set Power requests. -/
inductive PowerTarget where
  | active | standby
  deriving DecidableEq, Repr

/-- The state a code names, if any: ACTIVE 0, STANDBY 1 (R178). -/
def powerTargetNamed : Nat → Option PowerTarget
  | 0 => some .active
  | 1 => some .standby
  | _ => none

/-- The select period is a Set Power STANDBY, which is no wake in STANDBY (R146). One too short for its layout names no
state, and is a wake like any request (R154). -/
def isSetStandby (p : SelectPeriod) : Bool :=
  decide (3 ≤ byteCount p) && powerTargetNamed (fieldU8 p 2) == some .standby

/-- A refusal recorded, and POWER_REFUSED raised (R143, R144). -/
def refusePower (cause : RefusalCause) (s : State) : State :=
  raise .powerRefused (s.onPower fun p => { p with lastRefusal := some cause })

/-- A waiting request becomes absent, with no event (R143). -/
def dropWaiting (s : State) : State := s.onPower fun p => { p with waiting := false }

/-- The request waits; in DOZE with the session IDLE or LOST it is a wake (R143). -/
def waitForIdle (s : State) : State :=
  let s := s.onPower fun p => { p with waiting := true }
  if s.power.state == .doze && s.idleOrLost then wake .pLink s else s

/-- The judgement of Set Power, after the link, the code, and the two rows for STANDBY (R143). -/
def judgeSetPowerAwake (t : PowerTarget) (s : State) : Answer :=
  if s.power.state == .hold then plain .held s
  else if s.power.changing then plain .busy (refusePower .busyChanging s)
  else
    match t with
    | .active => plain .done (wake .pLink (dropWaiting s))
    | .standby =>
      if s.power.stayAwake then plain .refusedState (refusePower .stayAwake (dropWaiting s))
      else if s.power.state == .active && s.idleOrLost then plain .accepted (enterStandby s)
      else plain .accepted (waitForIdle s)

/-- The judgement of Set Power (R143); `taken` is the power state in which the request was taken, before its wake. -/
def judgeSetPower (taken : PowerState) (p : SelectPeriod) (s : State) : Answer :=
  match powerTargetNamed (fieldU8 p 2) with
  | none => refusedRange [2] s
  | some t => if taken == .standby then plain .done s else judgeSetPowerAwake t s

/-- SET_POWER (R143). -/
def execSetPower (p : SelectPeriod) (s : State) : Outcome State Fault Refusal :=
  .next (answerWaking (!isSetStandby p) 0x21#8 p 3 (onPOnly p (judgeSetPower s.power.state p)) s)

/-! ## Set Stay Awake and Read Power (R147, R152) -/

/-- The demand takes a value; a demand set is a wake in DOZE (R141, R147). -/
def setStayAwake (demand : Bool) (s : State) : State :=
  let s := s.onPower fun p => { p with stayAwake := demand }
  if demand then wake .sLink s else s

/-- The judgement of Set Stay Awake (R147). -/
def judgeSetStayAwake (p : SelectPeriod) (s : State) : Answer :=
  match p.link with
  | .p => plain .refusedLink s
  | .s =>
    match boolNamed (fieldU8 p 2) with
    | none => refusedRange [2] s
    | some demand => plain .done (setStayAwake demand s)

/-- SET_STAY_AWAKE (R147). -/
def execSetStayAwake (p : SelectPeriod) (s : State) : Outcome State Fault Refusal :=
  .next (answer 0x22#8 p 3 (judgeSetStayAwake p) s)

/-- READ_POWER (R152). -/
def execReadPower (p : SelectPeriod) (s : State) : Outcome State Fault Refusal :=
  .next (answer 0x23#8 p 2 (fun s => doneWith (powerPayload s) s) s)

/-! ## The supply hold (R148, R150, R151) -/

/-- HOLD_ENTRY (R148): with PF_WARN asserted, the condition is met when the part is settled in ACTIVE or DOZE and holds
something to keep. -/
def execHoldEntry (s : State) : Outcome State Fault Refusal := .next (if s.holdReady then enterHold s else s)

/-- The session at the supply return (R18). -/
def sessionReturn (s : State) : State :=
  if s.session.state == .paused && s.session.pauseCause == some .hold && s.plan.resumeAfterHold then resumeRunning s
  else s

/-- The supply returns in HOLD (R150). -/
def supplyReturns (s : State) : State :=
  let s := s.onLines fun l => { l with pfWarn := false }
  let s := s.onPower fun p => { p with
    state := .active, changing := true, reserveTimer := none, lastWake := some .supplyReturn }
  sessionReturn (restartDebounce (raise .holdChanged s))

/-- SUPPLY_RETURN (R150). -/
def execSupplyReturn (s : State) : Outcome State Fault Refusal :=
  .next (if s.power.state == .hold then supplyReturns s else s)

/-- The reserve timer expires now in HOLD (R138, R151). -/
def State.reserveDue (s : State) : Bool := s.power.state == .hold && s.power.reserveTimer == some s.now

/-- The session at the reserve expiry, unless it is IDLE: LOST, with a pending plan applied (R18, R23). A session already
LOST stays as it is. -/
def loseSession (s : State) : State := if s.idleOrLost then s else applyPending (enterSession .lost s)

/-- The engine at the reserve expiry: its marks are cleared, and a tile still in progress is abandoned without results
(R123, R151). -/
def abandonEngine (s : State) : State :=
  freeEngine (s.onEngine fun e => { e with clearPending := false, finishPending := false, previewPending := false })

/-- The reserve runs out (R151). The sequencer debounces REMOTE again (R47). -/
def reserveExpires (s : State) : State :=
  let s := s.onPower fun p => { p with state := .standby, changing := true, reserveTimer := none, waiting := false }
  let s := loseSession (raise .holdChanged s)
  restartDebounce (emptyMarkers (emptyLibrary (abandonEngine s.emptyRing)))

/-- RESERVE_EXPIRY (R151). -/
def execReserveExpiry (s : State) : Outcome State Fault Refusal :=
  .next (if s.reserveDue then reserveExpires s else s)

/-- PF_WARN changes level: where that makes the hold condition met the hold is entered, and in HOLD a deassertion is the
supply return, as at HOLD_ENTRY and SUPPLY_RETURN; everywhere else the level alone changes (R148, R150). -/
def pfWarnChanges (asserted : Bool) (s : State) : State :=
  if asserted then if s.holdReady then enterHold s else s.onLines fun l => { l with pfWarn := true }
  else if s.power.state == .hold then supplyReturns s
  else s.onLines fun l => { l with pfWarn := false }

/-- PF_WARN_LINE_CHANGE (R148, R150). -/
def execPfWarnLineChange (asserted : Bool) (s : State) : Outcome State Fault Refusal :=
  .next (if s.lines.pfWarn == asserted then s else pfWarnChanges asserted s)

/-! ## DOZE and the completion of a transition (R139, R140) -/

/-- Every condition of the entry to DOZE holds (R140). -/
def State.dozeDue (s : State) : Bool := s.dozeConditions.all id

/-- The entry to DOZE begins (R140). -/
def enterDoze (s : State) : State :=
  s.onPower fun p => { p with state := .doze, changing := true, engineOn := false }

/-- DOZE_ENTRY (R140). -/
def execDozeEntry (s : State) : Outcome State Fault Refusal := .next (if s.dozeDue then enterDoze s else s)

/-- A move to ACTIVE in progress comes from HOLD: the wake that began it is recorded at its taking, every move to ACTIVE
records one, none is recorded while the move is in progress, and SUPPLY_RETURN is the cause of the move from HOLD alone
(R138, R141, R146, R150; DEDUCED, assumption 20). -/
def Power.fromHold (p : Power) : Bool := p.lastWake == some .supplyReturn

/-- What the engine still owes to the transition in progress is done (R139): on the way from HOLD to ACTIVE it has stopped,
if it was still stopping (R150); on the way from DOZE or STANDBY to ACTIVE it owes nothing, so a wake that turns an entry to
STANDBY round is not held back by the tile of a closed job (R145); on the way to HOLD it has stopped, and on the way to
STANDBY its current job is none. -/
def State.transitionReady (s : State) : Bool :=
  s.power.changing &&
    match s.power.state with
    | .active => !s.power.fromHold || s.engine.stop == .none
    | .doze => true
    | .hold => s.engine.job == .none
    | .standby => s.engine.job == .none

/-- The domains in the state that a power state names, and CHANGING clear (R138, R139). In an entry to STANDBY or HOLD the
engine domain goes off here, with the memory, as R138 has the domains reach their state when the transition completes;
step 4 of R145 could be read to have it off from the end of the engine's job (DESIGN CHOICE, assumption 42). -/
def Power.settled (p : Power) : Power :=
  match p.state with
  | .active => { p with changing := false, memory := .active, engineOn := true }
  | .doze => { p with changing := false, memory := .selfRefresh, engineOn := false }
  | .hold => { p with changing := false, memory := .selfRefresh, engineOn := false }
  | .standby => { p with changing := false, memory := .off, engineOn := false }

/-- A wake kept through the entry to DOZE begins the move to ACTIVE at once (R141). -/
def takeKeptWake (s : State) : State :=
  if s.power.wakePending then s.onPower fun p => { p with state := .active, changing := true, wakePending := false }
  else s

/-- The transition in progress completes (R139): POWER_STATE is raised, the memory loses its contents in STANDBY (R106),
and a wake kept through the entry to DOZE is acted on. -/
def completeTransition (s : State) : State :=
  let t := raise .powerState (s.onPower Power.settled)
  match s.power.state with
  | .active => t
  | .doze => takeKeptWake t
  | .hold => t
  | .standby => t.loseMemory

/-- POWER_TRANSITION_COMPLETE (R139). -/
def execPowerTransitionComplete (s : State) : Outcome State Fault Refusal :=
  .next (if s.transitionReady then completeTransition s else s)

/-! ## The waiting request (R144) -/

/-- A waiting request can be carried out (R144). -/
def State.waitingDue (s : State) : Bool := s.power.waiting && s.idleOrLost && s.powered

/-- WAITING_REQUEST_CARRIED_OUT (R144). -/
def execWaitingRequestCarriedOut (s : State) : Outcome State Fault Refusal :=
  .next (if s.waitingDue then enterStandby s else s)

end Sys2Proof.Machine
end

