-- ==== Sys2Proof/Machine/ResultCommands.lean ====
section
/-! DEFINITION. The meanings of the commands of chapter 7: the bulk reads, Request Preview, Read Totals and the
completions of a finish, a preview and a bulk read. -/

namespace Sys2Proof.Machine

open Host (Outcome)

/-! ## Bulk reads (R131, R132, R136, R157) -/

/-- The number of bytes of a stream (R129, R135). -/
def State.streamSize (s : State) : Stream → Nat
  | .output => 2 * s.port.width * s.port.height
  | .preview => 2 * (s.port.width / 8) * (s.port.height / 8)

/-- The bytes that a bulk read carries (R180). -/
def State.bulkBytes (s : State) (b : BulkRead) : List Byte :=
  u16 b.count ++ streamBytes (match b.stream with | .output => s.dram.output | .preview => s.dram.preview) b.offset b.count

/-- What a bulk read's payload has before its byte count: the stamp for a preview (R180). -/
def State.bulkPrefix (s : State) : Stream → List Byte
  | .output => []
  | .preview => stampRecord s.results.stamp

/-- A bulk read of bytes within its stream (R132, R157): its bytes are taken at once in a powered part, where the arbiter
grants its accesses (R108); else the response waits for them, and the request is a wake in DOZE (R141). -/
def beginBulk (b : BulkRead) (fields : List Nat) (s : State) : Answer :=
  let start := s.bulkPrefix b.stream
  match if s.powered then grantsUntil .link 2 s else none with
  | some t => doneOrClamped fields (start ++ t.bulkBytes b) t
  | none => { doneOrClamped fields start (wake .pLink s) with bulk := some b }

/-- The checks of a bulk read's offset and length (R131, R136). -/
def judgeBulk (stream : Stream) (p : SelectPeriod) (s : State) : Answer :=
  let offset := fieldU32 p 2
  let length := fieldU32 p 6
  let size := s.streamSize stream
  if size ≤ offset then refusedRange [2] s
  else beginBulk ⟨stream, offset, min (min length 32768) (size - offset)⟩ (if 32768 < length then [6] else []) s

/-- The judgement of Read Block (R131). -/
def judgeReadBlock (p : SelectPeriod) (s : State) : Answer :=
  if s.session.state == .finished then unlessHeld (judgeBulk .output p) s else plain .refusedState s

/-- READ_BLOCK (R131). -/
def execReadBlock (p : SelectPeriod) (s : State) : Outcome State Fault Refusal :=
  .next (answer 0x1d#8 p 10 (onPOnly p (judgeReadBlock p)) s)

/-- The judgement of Read Preview (R136). -/
def judgeReadPreview (p : SelectPeriod) (s : State) : Answer :=
  if s.results.preview == .valid then unlessHeld (judgeBulk .preview p) s else plain .refusedState s

/-- READ_PREVIEW (R136). -/
def execReadPreview (p : SelectPeriod) (s : State) : Outcome State Fault Refusal :=
  .next (answer 0x1f#8 p 10 (onPOnly p (judgeReadPreview p)) s)

/-- The waiting bulk read takes its bytes, and the response becomes READY (R157). -/
def bulkCompletes (r : Response) (b : BulkRead) (s : State) : State :=
  let bytes := s.bulkBytes b
  s.onPLink fun l => { l with response := some ⟨{ r with payload := r.payload ++ bytes }, none⟩ }

/-- BULK_READ_COMPLETE (R157). -/
def execBulkReadComplete (s : State) : Outcome State Fault Refusal :=
  .next (match s.pLink.response with
    | some ⟨r, some b⟩ => if s.powered then whenServed .link (bulkCompletes r b) s else s
    | _ => s)

/-! ## Previews and totals -/

/-- The session states in which a preview may be requested (R133). -/
def State.previewAllowed (s : State) : Bool :=
  s.running || s.session.state == .paused || s.session.state == .draining || s.session.state == .finished

/-- The judgement of Request Preview (R133). -/
def judgeRequestPreview (s : State) : Answer :=
  if !s.previewAllowed then plain .refusedState s
  else
    unlessHeld
      (fun s =>
        if s.engine.previewPending || s.engine.job == .preview then plain .busy s
        else plain .accepted (wake .pLink (s.onEngine fun e => { e with previewPending := true }))) s

/-- REQUEST_PREVIEW (R133). -/
def execRequestPreview (p : SelectPeriod) (s : State) : Outcome State Fault Refusal :=
  .next (answer 0x1e#8 p 2 (onPOnly p judgeRequestPreview) s)

/-- READ_TOTALS (R137). -/
def execReadTotals (p : SelectPeriod) (s : State) : Outcome State Fault Refusal :=
  .next (answer 0x20#8 p 2 (fun s => doneWith (totalsPayload s) s) s)

/-! ## Completions (R128, R134) -/

/-- The finish completes: the output is VALID, FINISH_DONE is raised, and the session becomes FINISHED, where a pending
plan is applied (R13, R23, R128). -/
def finishCompletes (s : State) : State :=
  let s := raise .finishDone (endJob (s.onResults fun r => { r with output := .valid }))
  if s.session.state == .finishing then applyPending (enterSession .finished s) else s

/-- FINISH_COMPLETE (R128). -/
def execFinishComplete (s : State) : Outcome State Fault Refusal :=
  .next (if s.engine.job == .finish then completeJob finishCompletes s else s)

/-- The preview completes with its stamp (R134). -/
def previewCompletes (note : PreviewNote) (s : State) : State :=
  let now := s.now
  raise .previewDone (endJob (s.onResults fun r => { r with
    preview := .valid, stamp := ⟨note, now⟩, lastPreviewEnd := some .completed }))

/-- PREVIEW_COMPLETE (R134). -/
def execPreviewComplete (s : State) : Outcome State Fault Refusal :=
  .next (match s.engine.job, s.engine.work with
    | .preview, .preview note => completeJob (previewCompletes note) s
    | _, _ => s)

end Sys2Proof.Machine
end

