-- ==== Sys2Proof/Machine/SensorCommands.lean ====
section
/-! DEFINITION. The meanings of the commands of chapter 3: the sensor's configuration, the units that arrive on the
Sensor Port, the readout timer, and the reads of the ring. -/

namespace Sys2Proof.Machine

open Host (Outcome)

/-! ## Configuration (R49, R50) -/

/-- A width or height brought into its range and down to a multiple of 64 (R49). -/
def clampedSide (raw lo hi : Nat) : Nat := clampNat raw lo hi / 64 * 64

/-- A side with its offset when it was changed (R49). -/
def sideField (offset raw lo hi : Nat) : Nat × List Nat :=
  (clampedSide raw lo hi, if clampedSide raw lo hi = raw then [] else [offset])

/-- The lane count a code names, if any: 2 or 4 (R49). -/
def lanesNamed (n : Nat) : Option Nat := if n = 2 ∨ n = 4 then some n else none

/-- The sensor configured: the Tile Map at its defaults, the Dark Library emptied, and the lane sync lost if the lane
count changed (R48, R49). -/
def configureSensor (width height : Nat) (bayer : Bayer) (lanes : Nat) (s : State) : State :=
  let s := s.onPort fun p => { p with
    width := width, height := height, bayer := bayer, lanes := lanes
    sync := if lanes = p.lanes then p.sync else .awaitingFrameStart
    lastTrailer := none, lastResult := none, discarded := 0 }
  emptyLibrary (s.onTileMap fun _ => [])

/-- The judgement of Configure Sensor (R49). -/
def judgeConfigureSensor (p : SelectPeriod) (s : State) : Answer :=
  if s.session.state == .idle then
    let w := sideField 2 (fieldU16 p 2) 1024 6144
    let h := sideField 4 (fieldU16 p 4) 768 4096
    let b := codedField 6 (bayerNamed (fieldU8 p 6)) .rggb
    let n := codedField 7 (lanesNamed (fieldU8 p 7)) 4
    doneOrClamped (w.2 ++ h.2 ++ b.2 ++ n.2) [] (configureSensor w.1 h.1 b.1 n.1 s)
  else plain .refusedState s

/-- CONFIGURE_SENSOR (R49). -/
def execConfigureSensor (p : SelectPeriod) (s : State) : Outcome State Fault Refusal :=
  .next (answer 0x0f#8 p 8 (onPOnly p (judgeConfigureSensor p)) s)

/-- READ_SENSOR (R50). -/
def execReadSensor (p : SelectPeriod) (s : State) : Outcome State Fault Refusal :=
  .next (answer 0x10#8 p 2 (fun s => doneWith (sensorPayload s) s) s)

/-! ## Reads of the ring (R66, R67) -/

/-- The judgement of Read Sub Outcome (R66). -/
def judgeReadSubOutcome (p : SelectPeriod) (s : State) : Answer :=
  match s.ring.carrying (fieldU16 p 2) with
  | none => refusedRange [2] s
  | some i => doneWith (subOutcomeRecord i s.ring.desc[i]) s

/-- READ_SUB_OUTCOME (R66). -/
def execReadSubOutcome (p : SelectPeriod) (s : State) : Outcome State Fault Refusal :=
  .next (answer 0x11#8 p 4 (judgeReadSubOutcome p) s)

/-- READ_RING (R67). -/
def execReadRing (p : SelectPeriod) (s : State) : Outcome State Fault Refusal :=
  .next (answer 0x12#8 p 2 (fun s => doneWith (ringPayload s) s) s)

/-! ## Frame reception (R52 to R57) -/

/-- A readout that ended without a passed check: the last frame result, the readout timer cancelled, and the READING
descriptor retired REJECTED (GEOMETRY) (R56, R57). -/
def failFrame (r : FrameResult) (s : State) : State :=
  let reading := s.reading
  let s := s.onPort fun p => { p with lastResult := some r, readoutTimer := none }
  match reading with
  | none => s
  | some i => retire i (.rejected .geometry) false s

/-- A frame is discarded at its start (R54). -/
def discardFrame (s : State) : State :=
  s.onPort fun p => { p with reception := .discarding, discarded := saturate 65535 (p.discarded + 1) }

/-- The decision on a new frame (R54). -/
def judgeFrame (s : State) : State :=
  match s.reading with
  | none => discardFrame s
  | some i =>
    if s.powered then s.onPort fun p => { p with reception := .receiving s.ring.desc[i].sub } else discardFrame s

/-- A frame start (R53, R54): the port locks, a frame in progress is truncated (R57), and the new frame is judged. -/
def frameStarts (s : State) : State :=
  let s := s.onPort fun p => { p with sync := .synced, lineCount := 0, pixelCount := 0, frameFailed := false }
  judgeFrame (match s.port.reception with
    | .receiving _ => failFrame .failedTruncated s
    | _ => s)

/-- FRAME_START (R54). -/
def execFrameStart (s : State) : Outcome State Fault Refusal := .next (frameStarts s)

/-- The pixels of a line in order: pixel k comes from lane k modulo the lane count, and the line ends where the lane
whose turn it is has no pixel left (R53; assumption 10). The first argument bounds the number of pixels. -/
def assembleFrom (lanes : List (List Pixel)) (count : Nat) : Nat → Nat → List Pixel
  | 0, _ => []
  | fuel + 1, k =>
    match (lanes.getD (k % count) [])[k / count]? with
    | none => []
    | some x => x :: assembleFrom lanes count fuel (k + 1)

/-- The line that the port assembles from its lanes (R53). -/
def assembleLine (lanes : List (List Pixel)) (count : Nat) : List Pixel :=
  assembleFrom lanes count (lanes.map List.length).sum 0

/-- The line written into a staging buffer: row y, the first W pixels, for y below H (R55). -/
def writeLine (p : SensorPort) (line : List Pixel) (m : Region Nat) : Region Nat :=
  if p.lineCount < p.height then
    regionWriteRun 0 m (stagingIndex 0 p.lineCount) ((line.take p.width).map BitVec.toNat)
  else m

/-- A line counted (R55). -/
def SensorPort.countLine (p : SensorPort) (length : Nat) : SensorPort :=
  { p with lineCount := saturate 65535 (p.lineCount + 1), pixelCount := saturate 65535 length }

/-- A line stored in the staging buffer of the READING descriptor (R55). -/
def storeLine (line : List Pixel) (s : State) : State :=
  match s.reading with
  | none => s
  | some i => s.onDram fun d => { d with staging := d.staging.set i (writeLine s.port line d.staging[i]) }

/-- An image line of a frame in progress (R54, R55); the arbiter grants its writes before those of any other requester
(R108). Between a trailer and the next frame start there is no frame, and a line changes nothing (assumption 10). -/
def lineArrives (lanes : List (List Pixel)) (s : State) : State :=
  let line := assembleLine lanes s.port.lanes
  match s.port.reception with
  | .idle => s
  | .discarding => s.onPort fun p => p.countLine line.length
  | .receiving _ =>
    let s := whenServed .sensorPort (storeLine line) s
    s.onPort fun p =>
      { p.countLine line.length with frameFailed := p.frameFailed || line.length != p.width }

/-- IMAGE_LINE (R53, R55). -/
def execImageLine (lanes : List (List Pixel)) (s : State) : Outcome State Fault Refusal :=
  .next (if s.port.sync == .synced then lineArrives lanes s else s)

/-- The frame passes the geometry check (R11, R56). -/
def passFrame (s : State) : State :=
  let reading := s.reading
  let s := s.onPort fun p => { p with lastResult := some .passed, readoutTimer := none }
  let s := s.onSession fun x => { x with geometryCount := 0 }
  match reading with
  | none => s
  | some i => s.onDesc i fun d => { d with state := .waiting }

/-- The trailer of a frame being received: the last trailer, the descriptor's temperature and the geometry check
(R56). -/
def trailerReceived (t : Trailer) (s : State) : State :=
  let s := s.onPort fun p => { p with lastTrailer := some t, reception := .idle }
  let s := match s.reading with
    | none => s
    | some i => s.onDesc i fun d => { d with temperature := some t.temperature }
  if s.port.lineCount = s.port.height ∧ s.port.frameFailed = false then passFrame s else failFrame .failedShape s

/-- A trailer line (R54, R56): that of a discarded frame ends it unchecked. -/
def trailerArrives (t : Trailer) (s : State) : State :=
  match s.port.reception with
  | .idle => s
  | .discarding => s.onPort fun p => { p with reception := .idle }
  | .receiving _ => trailerReceived t s

/-- TRAILER_LINE (R53, R56). -/
def execTrailerLine (frameCounter : BitVec 16) (temperature : BitVec 12) (s : State) : Outcome State Fault Refusal :=
  .next (if s.port.sync == .synced then trailerArrives ⟨frameCounter.toNat, temperature.toInt⟩ s else s)

/-- The readout timer expires now with a descriptor READING (R57). -/
def State.readoutDue (s : State) : Bool := s.port.readoutTimer == some s.now && s.reading.isSome

/-- The readout timer expires: a frame being received is discarded from here on (R57). -/
def readoutTimesOut (s : State) : State :=
  let s := s.onPort fun p => { p with
    reception := match p.reception with
      | .receiving _ => .discarding
      | r => r }
  failFrame .failedTimeout s

/-- READOUT_TIMEOUT (R57). -/
def execReadoutTimeout (s : State) : Outcome State Fault Refusal :=
  .next (if s.readoutDue then readoutTimesOut s else s)

end Sys2Proof.Machine
end

