-- ==== Sys2Proof/Machine/Dispatch.lean ====
section
/-! DEFINITION. The meaning of every command: one call for each constructor, in the order of the opcode table. -/

namespace Sys2Proof.Machine

open Host (Outcome)

/-- The effect of a command on everything but the queue of waiting commands. -/
def exec (i : Instr) (s : State) : Host.Outcome State Fault Refusal :=
  match i with
  | .fullReset => Sys2Proof.Machine.execFullReset s
  | .arm p => Sys2Proof.Machine.execArm p s
  | .start p => Sys2Proof.Machine.execStart p s
  | .pause p => Sys2Proof.Machine.execPause p s
  | .resume p => Sys2Proof.Machine.execResume p s
  | .finish p => Sys2Proof.Machine.execFinish p s
  | .extend p => Sys2Proof.Machine.execExtend p s
  | .closeSession p => Sys2Proof.Machine.execCloseSession p s
  | .writePlan p => Sys2Proof.Machine.execWritePlan p s
  | .readPlan p => Sys2Proof.Machine.execReadPlan p s
  | .selectPlan p => Sys2Proof.Machine.execSelectPlan p s
  | .setPartSettings p => Sys2Proof.Machine.execSetPartSettings p s
  | .readPartSettings p => Sys2Proof.Machine.execReadPartSettings p s
  | .readSequencer p => Sys2Proof.Machine.execReadSequencer p s
  | .triggerSub p => Sys2Proof.Machine.execTriggerSub p s
  | .configureSensor p => Sys2Proof.Machine.execConfigureSensor p s
  | .readSensor p => Sys2Proof.Machine.execReadSensor p s
  | .readSubOutcome p => Sys2Proof.Machine.execReadSubOutcome p s
  | .readRing p => Sys2Proof.Machine.execReadRing p s
  | .reportPose p => Sys2Proof.Machine.execReportPose p s
  | .dropStar p => Sys2Proof.Machine.execDropStar p s
  | .readDrift p => Sys2Proof.Machine.execReadDrift p s
  | .readGuidance p => Sys2Proof.Machine.execReadGuidance p s
  | .readStarTable p => Sys2Proof.Machine.execReadStarTable p s
  | .clearDarkSlot p => Sys2Proof.Machine.execClearDarkSlot p s
  | .readDarkLibrary p => Sys2Proof.Machine.execReadDarkLibrary p s
  | .writeTiles p => Sys2Proof.Machine.execWriteTiles p s
  | .readTiles p => Sys2Proof.Machine.execReadTiles p s
  | .readEngine p => Sys2Proof.Machine.execReadEngine p s
  | .readBlock p => Sys2Proof.Machine.execReadBlock p s
  | .requestPreview p => Sys2Proof.Machine.execRequestPreview p s
  | .readPreview p => Sys2Proof.Machine.execReadPreview p s
  | .readTotals p => Sys2Proof.Machine.execReadTotals p s
  | .setPower p => Sys2Proof.Machine.execSetPower p s
  | .setStayAwake p => Sys2Proof.Machine.execSetStayAwake p s
  | .readPower p => Sys2Proof.Machine.execReadPower p s
  | .readEvents p => Sys2Proof.Machine.execReadEvents p s
  | .acknowledgeEvents p => Sys2Proof.Machine.execAcknowledgeEvents p s
  | .setEventEnable p => Sys2Proof.Machine.execSetEventEnable p s
  | .setEventOrder p => Sys2Proof.Machine.execSetEventOrder p s
  | .readStatus p => Sys2Proof.Machine.execReadStatus p s
  | .unknownRequest code p => Sys2Proof.Machine.execUnknownRequest code p s
  | .collection link clocks => Sys2Proof.Machine.execCollection link clocks s
  | .remoteLineChange low => Sys2Proof.Machine.execRemoteLineChange low s
  | .remotePress => Sys2Proof.Machine.execRemotePress s
  | .remoteRelease => Sys2Proof.Machine.execRemoteRelease s
  | .shutterClosedAssert => Sys2Proof.Machine.execShutterClosedAssert s
  | .shutterClosedDeassert => Sys2Proof.Machine.execShutterClosedDeassert s
  | .holdEntry => Sys2Proof.Machine.execHoldEntry s
  | .supplyReturn => Sys2Proof.Machine.execSupplyReturn s
  | .reserveExpiry => Sys2Proof.Machine.execReserveExpiry s
  | .frameStart => Sys2Proof.Machine.execFrameStart s
  | .imageLine lanes => Sys2Proof.Machine.execImageLine lanes s
  | .trailerLine frameCounter temperature => Sys2Proof.Machine.execTrailerLine frameCounter temperature s
  | .cadenceTimerExpiry => Sys2Proof.Machine.execCadenceTimerExpiry s
  | .sequencerStart => Sys2Proof.Machine.execSequencerStart s
  | .exposureEnd => Sys2Proof.Machine.execExposureEnd s
  | .closeTimeout => Sys2Proof.Machine.execCloseTimeout s
  | .openTimeout => Sys2Proof.Machine.execOpenTimeout s
  | .wakeAlarmFires => Sys2Proof.Machine.execWakeAlarmFires s
  | .readoutTimeout => Sys2Proof.Machine.execReadoutTimeout s
  | .durationLimitReached => Sys2Proof.Machine.execDurationLimitReached s
  | .engineTakesJob => Sys2Proof.Machine.execEngineTakesJob s
  | .engineTileComplete => Sys2Proof.Machine.execEngineTileComplete s
  | .planeClearComplete => Sys2Proof.Machine.execPlaneClearComplete s
  | .measurementComplete => Sys2Proof.Machine.execMeasurementComplete s
  | .lightMergeComplete => Sys2Proof.Machine.execLightMergeComplete s
  | .darkMergeComplete => Sys2Proof.Machine.execDarkMergeComplete s
  | .finishComplete => Sys2Proof.Machine.execFinishComplete s
  | .previewComplete => Sys2Proof.Machine.execPreviewComplete s
  | .drainComplete => Sys2Proof.Machine.execDrainComplete s
  | .dozeEntry => Sys2Proof.Machine.execDozeEntry s
  | .powerTransitionComplete => Sys2Proof.Machine.execPowerTransitionComplete s
  | .waitingRequestCarriedOut => Sys2Proof.Machine.execWaitingRequestCarriedOut s
  | .bulkReadComplete => Sys2Proof.Machine.execBulkReadComplete s
  | .pfWarnLineChange asserted => Sys2Proof.Machine.execPfWarnLineChange asserted s

end Sys2Proof.Machine
end

