-- ==== Sys2Proof/Machine/OwnSteps.lean ====
section
/-! DEFINITION. What the part does while no command waits: the own step whose moment has come, or the passing of one
millisecond (assumption 1). The completion of a tile, of a measurement and of a power transition take a time the manual
does not give, so they come as commands alone. -/

namespace Sys2Proof.Machine

/-- A job whose every tile is done completes now. -/
def State.completionDue (s : State) : Option Instr :=
  if !s.tilesOver then none
  else
    match s.engine.job, s.engine.work with
    | .planeClear, _ => some .planeClearComplete
    | .finish, _ => some .finishComplete
    | .preview, .preview _ => some .previewComplete
    | .descriptor _, .merging _ _ _ => some .lightMergeComplete
    | .descriptor _, .darkMerging => some .darkMergeComplete
    | _, _ => none

/-- A waiting bulk read takes its bytes now (R157). -/
def State.bulkDue (s : State) : Bool := s.powered && s.pLink.bulkRead.isSome

/-- The drain is complete (R13). -/
def State.drainDue (s : State) : Bool := s.session.state == .draining && s.ring.drained

/-- The part's own steps, each with whether its moment has come, in the order in which the model takes steps that fall
at one moment (assumption 1). -/
def State.ownSteps (s : State) : List (Bool × Instr) :=
  [(s.reserveDue, .reserveExpiry),
    (s.holdCondition, .holdEntry),
    (s.readoutDue, .readoutTimeout),
    (s.shutterDue .waitShutter, .closeTimeout),
    (s.shutterDue .waitOpen, .openTimeout),
    (s.alarmDue, .wakeAlarmFires),
    (s.endingExposure.isSome, .exposureEnd),
    (s.debounceDue true, .remotePress),
    (s.debounceDue false, .remoteRelease),
    (s.durationDue, .durationLimitReached),
    (s.cadenceDue, .cadenceTimerExpiry),
    (s.startDue, .sequencerStart),
    (s.drainDue, .drainComplete)]

/-- The part's own steps in the engine and the Power Controller, which follow those of `ownSteps`. -/
def State.lateSteps (s : State) : List (Bool × Instr) :=
  [(s.waitingDue, .waitingRequestCarriedOut),
    (s.takingDue, .engineTakesJob),
    (s.bulkDue, .bulkReadComplete),
    (s.dozeDue, .dozeEntry)]

/-- The first step of a list whose moment has come. -/
def firstDue : List (Bool × Instr) → Option Instr
  | [] => none
  | (due, i) :: rest => if due then some i else firstDue rest

/-- The own step whose moment has come, if any. -/
def State.dueStep (s : State) : Option Instr :=
  match firstDue s.ownSteps, s.completionDue with
  | some i, _ => some i
  | none, some i => some i
  | none, none => firstDue s.lateSteps

/-- One millisecond passes: the Session Clock counts, wrapping (R28), and in a running state the run time counts,
saturating (R1). -/
def tick (s : State) : State :=
  let running := s.running
  (s.onSeq fun q => { q with clock := q.clock + 1 }).onSession fun x =>
    { x with runTime := if running then saturate 4294967295 (x.runTime + 1) else x.runTime }

end Sys2Proof.Machine
end

