-- ==== Sys2Proof/Machine/Step.lean ====
section
/-! DEFINITION. One step: the command at the front of the queue, or, on an empty queue, the part's own step whose moment
has come or the passing of one millisecond (assumption 1). -/

namespace Sys2Proof.Machine

open Host (Outcome)

/-- What the part does while no command waits (assumption 1). -/
def idleStep (s : State) : Outcome State Fault Refusal :=
  match s.dueStep with
  | some i => exec i s
  | none => .next (tick s)

/-- One step of the part. -/
def step (s : State) : Outcome State Fault Refusal :=
  match s.pending with
  | c :: rest => exec c (s.onPending fun _ => rest)
  | [] => idleStep s

/-- The state with the command that a word spells at the front of its queue; unchanged where the word spells none. The
opcode table gives its rows no bits, so no word spells a command (assumption 12). -/
def State.withFetchWord (s : State) (nbits w : Nat) : State :=
  match Sys2Proof.decodeTableWord nbits w with
  | some c => s.onPending fun q => c :: q
  | none => s

end Sys2Proof.Machine
end

