-- ==== Sys2Proof/Safety.lean ====
section
/-! DEFINITION. What counts as a right state of the FN-412, in the terms the statements use: the laws that the manual
states of the whole machine, what it is for a step to keep one, and the form of an answered request. -/

namespace Sys2Proof.Safety

open Sys2Proof.Machine

/-- Every step that answers a next state keeps `P`, from every state that has it. -/
def Kept (P : State → Prop) : Prop := ∀ s t, P s → step s = .next t → P t

/-! ## Laws of the whole machine -/

/-- A link's events: bit 15 stands for no event (R179), the group order names every group once (R165), and the attention
line is asserted exactly when the pending set holds an enabled event (R160). -/
def LinkRight (l : LinkState) : Prop :=
  l.pendingSet.getLsbD 15 = false ∧ l.enableSet.getLsbD 15 = false ∧ l.order.length = 4 ∧ l.order.Nodup ∧
    (l.attention = true ↔ ∃ n : Nat, l.pendingSet.getLsbD n = true ∧ l.enableSet.getLsbD n = true)

/-- The events of both links. -/
def EventsRight (s : State) : Prop := LinkRight s.pLink ∧ LinkRight s.sLink

/-- The Session Controller: the pause cause is present exactly in PAUSED (R1), INTEGRATING has the reference-set flag
(R9), and the counters and the run time stay in their ranges (R1). -/
def SessionRight (s : State) : Prop :=
  (s.session.pauseCause.isSome = true ↔ s.session.state = .paused) ∧
    (s.session.state = .integrating → s.session.referenceSet = true) ∧
    s.session.attempts ≤ 255 ∧ s.session.movedCount ≤ 255 ∧ s.session.geometryCount ≤ 255 ∧
    s.session.runTime < 2 ^ 32

/-- The Power Controller: HOLD lasts only while PF_WARN is asserted, and the reserve timer is present exactly then
(R150, R151); a wake is kept only through an entry to DOZE (R141); a settled part has its memory and its engine domain
as its power state names them (R138). -/
def PowerRight (s : State) : Prop :=
  (s.power.reserveTimer.isSome = true ↔ s.power.state = .hold) ∧
    (s.power.state = .hold → s.lines.pfWarn = true) ∧
    (s.power.wakePending = true → s.power.state = .doze ∧ s.power.changing = true) ∧
    (s.power.changing = false →
      (s.power.state = .active → s.power.memory = .active ∧ s.power.engineOn = true) ∧
      (s.power.state = .doze → s.power.memory = .selfRefresh ∧ s.power.engineOn = false) ∧
      (s.power.state = .hold → s.power.memory = .selfRefresh ∧ s.power.engineOn = false) ∧
      (s.power.state = .standby → s.power.memory = .off ∧ s.power.engineOn = false))

/-- Every numeric field of a plan lies in its range (R19). -/
def PlanInRange (p : Plan) : Prop :=
  500 ≤ p.subLength ∧ p.subLength ≤ 900000 ∧ p.gap ≤ 600000 ∧ 1 ≤ p.subLimit ∧ p.subLimit ≤ 65535 ∧
    p.durationLimit ≤ 1440 ∧ p.darkCadence ≤ 255 ∧ 1 ≤ p.darkMinimum ∧ p.darkMinimum ≤ 64 ∧ p.blackLevel ≤ 4095 ∧
    16 ≤ p.rejectK ∧ p.rejectK ≤ 160 ∧ 3 ≤ p.rejectMin ∧ p.rejectMin ≤ 64 ∧ p.floorVariance ≤ 65535 ∧
    16 ≤ p.starThreshold ∧ p.starThreshold ≤ 16383 ∧ 4 ≤ p.windowRadius ∧ p.windowRadius ≤ 32 ∧
    16 ≤ p.driftLimit ∧ p.driftLimit ≤ 1024 ∧ p.outputPedestal ≤ 4095

/-- What masters write stays in its range: the plans and every plan snapshot (R19), the hold reserve (R24), the geometry
and the lane count (R48, R49), and the blend weights (R103). -/
def SettingsRight (s : State) : Prop :=
  (∀ i : Fin 4, PlanInRange s.session.plans[i]) ∧ (∀ i : Fin 6, PlanInRange s.ring.desc[i].snapshot) ∧
    5 ≤ s.session.holdReserve ∧ s.session.holdReserve ≤ 120 ∧
    1024 ≤ s.port.width ∧ s.port.width ≤ 6144 ∧ s.port.width % 64 = 0 ∧
    768 ≤ s.port.height ∧ s.port.height ≤ 4096 ∧ s.port.height % 64 = 0 ∧
    (s.port.lanes = 2 ∨ s.port.lanes = 4) ∧
    ∀ e ∈ s.tileMap, e.2.weight ≤ 16

/-- One channel of a cell record: the sum lies between 0 and 16,383 times the count (R107), and n · Q − S² is never
negative (R118). -/
def ChannelRight (n sum square : Nat) : Prop := sum ≤ 16383 * n ∧ square ≤ 16383 ^ 2 * n ∧ sum ^ 2 ≤ n * square

/-- A cell record: each channel as above, so that a record with count 0 has every sum and square sum 0 (R107). -/
def RecordRight (r : CellRecord) : Prop :=
  ChannelRight r.count r.sum.r r.square.r ∧ ChannelRight r.count r.sum.ga r.square.ga ∧
    ChannelRight r.count r.sum.gb r.square.gb ∧ ChannelRight r.count r.sum.b r.square.b

/-- Every cell record listed in either plane; a cell that is not listed holds the zero record. -/
def PlanesRight (s : State) : Prop := (∀ e ∈ s.dram.sky, RecordRight e.2) ∧ (∀ e ∈ s.dram.ground, RecordRight e.2)

/-- The law of the Dark Library (R93): the slots that are not EMPTY carry distinct bands, and no count exceeds 64; the
merge target is a slot that may take one dark more, and the use order names a slot once. -/
def DarkLibraryRight (s : State) : Prop :=
  (∀ i j : Fin 4, s.darks.slots[i].state ≠ .empty → s.darks.slots[j].state ≠ .empty →
      s.darks.slots[i].band = s.darks.slots[j].band → i = j) ∧
    (∀ i : Fin 4, s.darks.slots[i].count ≤ 64) ∧
    (∀ i : Fin 4, s.darks.mergeTarget = some i → s.darks.slots[i].state ≠ .empty ∧ s.darks.slots[i].count < 64) ∧
    s.darks.useOrder.Nodup

/-! ## Requests -/

/-- The taking of a request has no effect of its own: the part is not in STANDBY (R146), and a request on the S-link
finds no waiting STANDBY request to give up (R144). -/
def QuietTaking (p : SelectPeriod) (s : State) : Prop :=
  s.power.state ≠ .standby ∧ (p.link = .s → s.power.waiting = false)

/-- The state at the judgement of a request whose taking is quiet: the pending response discarded, and the idle byte sent
on every clock of the request (R154, R155). -/
def taken (p : SelectPeriod) (s : State) : State :=
  s.onLink p.link fun l => { l with response := none, sent := List.replicate (byteCount p) 0xff#8 }

/-- A state with a READY response to a request on the link it arrived on, where the part has sent the idle byte on every
clock of the request (R154, R155). -/
def answered (p : SelectPeriod) (code : Byte) (o : ReqOutcome) (fields : List Nat) (payload : List Byte) (s : State) :
    State :=
  s.onLink p.link fun l =>
    { l with
      response := some ⟨⟨code, tagOf p, o, fields, payload⟩, none⟩
      sent := List.replicate (byteCount p) 0xff#8 }

/-- A state whose response waits for a bulk read (R157). -/
def answeredLater (p : SelectPeriod) (code : Byte) (o : ReqOutcome) (fields : List Nat) (payload : List Byte)
    (b : BulkRead) (s : State) : State :=
  s.onLink p.link fun l =>
    { l with
      response := some ⟨⟨code, tagOf p, o, fields, payload⟩, some b⟩
      sent := List.replicate (byteCount p) 0xff#8 }

/-- A payload carries fields, each at its offset from the payload's first byte. -/
def CarriesFields (payload : List Byte) (fields : List (Nat × List Byte)) : Prop :=
  ∀ f ∈ fields, (payload.drop f.1).take f.2.length = f.2

/-- The time remaining that the sequencer states (R42, R140), spelled out. With an exposure in progress it is, for a
REMOTE_GATE light, the time to its 500 ms minimum, and 0 after it, and for a fixed-length exposure what is left of its
length, which is the planned end less the clock. With none in progress it is, in a running TIMED session, 0 with a kept
expiry, and else the time to the Cadence Timer; in every other case it is unbounded, also where a session that does not run
has a Cadence Timer or a kept expiry (DEDUCED, assumption 38). -/
def TimeRemainingRight (s : State) : Prop :=
  (∀ c, s.seq.current = some c →
    let d := s.ring.desc[c.index]
    let ran := (s.seq.clock - c.start).toNat
    let gate := c.kind = .light ∧ d.snapshot.triggerMode = .remoteGate
    (gate → s.timeRemaining = some (500 - ran)) ∧
    (¬gate → s.timeRemaining = some (d.exposure - ran)) ∧
    (¬gate → c.plannedEnd = c.start + BitVec.ofNat 32 d.exposure → d.exposure < 2 ^ 32 → ran ≤ d.exposure →
      s.timeRemaining = some (c.plannedEnd - s.seq.clock).toNat)) ∧
  (s.seq.current = none →
    let cadence := s.session.state ∈ [.referencing, .integrating] ∧ s.plan.triggerMode = .timed
    (cadence → s.seq.keptExpiry = true → s.timeRemaining = some 0) ∧
    (cadence → s.seq.keptExpiry = false →
      s.timeRemaining = s.seq.cadenceTimer.map fun t => (t - s.seq.clock).toNat) ∧
    (¬cadence → s.timeRemaining = none))

/-- The parts of the state outside the two links. -/
def SameButLinks (s t : State) : Prop :=
  t.session = s.session ∧ t.seq = s.seq ∧ t.port = s.port ∧ t.ring = s.ring ∧ t.guidance = s.guidance ∧
    t.darks = s.darks ∧ t.tileMap = s.tileMap ∧ t.engine = s.engine ∧ t.results = s.results ∧ t.power = s.power ∧
    t.lines = s.lines ∧ t.dram = s.dram

/-- A state whose engine has ended its job: no job, nothing of its work and no stop request (R110, R121), and no tile
done (assumption 40). -/
def jobEnded (s : State) : State :=
  { s with engine := { s.engine with job := .none, work := .none, tilesDone := 0, stop := .none } }

/-- The number of descriptors in flight (R13, R181). -/
def inFlightCount (r : Ring) : Nat := ((List.finRange 6).filter fun i => r.desc[i].inFlight).length

/-- The totals of subs retired with an outcome that has a total (R181). -/
def retiredTotal (t : Totals) : Nat :=
  t.lightsMerged + t.lightsGroundOnly + t.rejectedShake + t.rejectedMoved + t.rejectedGeometry + t.rejectedPaused +
    t.rejectedAbandoned + t.darksMerged + t.darksDiscarded

end Sys2Proof.Safety
end

