-- ==== Sys2Proof/Certificates/Slice0/Obligations.lean ====
section
/-! DEFINITION. The statements for the provers. Each docstring names the rule of spec/ a statement rests on; where a
statement rests on a choice of the model, it says so and names the assumption. -/

open Sys2Proof Sys2Proof.Machine Sys2Proof.Safety

/-! ## Steps, commands and bytes -/

/-- A step takes the command at the front of the queue and runs its meaning with the rest of the queue. -/
def Obligations.StepRunsTheFrontCommand : Prop :=
  ∀ (c : Instr) (rest : List Instr) (s : State),
    s.pending = c :: rest → step s = exec c { s with pending := rest }

/-- On an empty queue a step is the own step whose moment has come, or one millisecond in which the Session Clock counts
(R28) and, in a running state, the run time (R1). That an empty queue is read so is the model's choice
(assumption 1). -/
def Obligations.IdleStepIsADueStepOrAMillisecond : Prop :=
  (∀ (i : Instr) (s : State), s.pending = [] → s.dueStep = some i → step s = exec i s) ∧
    (∀ s : State, s.pending = [] → s.dueStep = none → s.running = true → s.session.runTime < 2 ^ 32 - 1 →
      step s = .next { s with
        seq := { s.seq with clock := s.seq.clock + 1 }
        session := { s.session with runTime := s.session.runTime + 1 } }) ∧
    (∀ s : State, s.pending = [] → s.dueStep = none → s.running = false →
      step s = .next { s with seq := { s.seq with clock := s.seq.clock + 1 } })

/-- Decoding and encoding agree on select periods (R154, R167): every well-formed link command is read back from the
bytes it is written as, and every select period that is a transaction is a well-formed command, whose bytes are those
of the period but for the bytes that follow a collect code, which carry nothing. -/
def Obligations.LinkCommandsRoundTrip : Prop :=
  (∀ (i : Instr) (l : Link) (b : List Byte),
      i.WellFormed = true → encodeSelectPeriod i = some (l, b) → decodeSelectPeriod l b = some i) ∧
    (∀ (l : Link) (code : Byte) (rest : List Byte), ∃ i, decodeSelectPeriod l (code :: rest) = some i ∧
      i.WellFormed = true ∧
      (code ≠ collectCode → encodeSelectPeriod i = some (l, code :: rest)) ∧
      (code = collectCode → i = .collection l rest.length)) ∧
    (∀ l : Link, decodeSelectPeriod l [] = none)

/-! ## Laws that every step keeps -/

/-- Every step keeps the memory and the Tile Map in their canonical form. -/
def Obligations.EveryStepKeepsMemoryCanonical : Prop := Kept fun s => s.memoryWf = true

/-- Every step keeps each link's attention line asserted exactly while an enabled event is pending (R160), the event sets
without bit 15 (R179) and the group orders (R165). -/
def Obligations.EveryStepKeepsAttentionRight : Prop := Kept EventsRight

/-- Every step keeps the Session Controller's law: the pause cause exactly in PAUSED (R1), INTEGRATING only with the
reference-set flag (R9), the counters and the run time in their ranges (R1). -/
def Obligations.EveryStepKeepsTheSessionRight : Prop := Kept SessionRight

/-- Every step keeps the Power Controller's law: HOLD only while PF_WARN is asserted and the reserve timer is present
(R151), a kept wake only in an entry to DOZE (R141), a settled part with its domains as its state names them (R138). -/
def Obligations.EveryStepKeepsThePowerStateRight : Prop := Kept PowerRight

/-- Every step keeps the plans, the plan snapshots, the part settings, the geometry and the blend weights in their ranges
(R19, R24, R49, R103). -/
def Obligations.EveryStepKeepsSettingsInRange : Prop := Kept SettingsRight

/-- Every step keeps the relations of the cell records of both planes (R107, R118). -/
def Obligations.EveryStepKeepsThePlanesRight : Prop := Kept PlanesRight

/-- Every step keeps the law of the Dark Library (R92 to R94). -/
def Obligations.EveryStepKeepsTheDarkLibraryRight : Prop := Kept DarkLibraryRight

/-- The machine right after reset meets each of these laws. -/
def Obligations.ResetMeetsEveryLaw : Prop :=
  State.reset.memoryWf = true ∧ EventsRight State.reset ∧ SessionRight State.reset ∧ PowerRight State.reset ∧
    SettingsRight State.reset ∧ PlanesRight State.reset ∧ DarkLibraryRight State.reset

/-- A full reset gives every block the values the manual states (R1, R27, R48, R59, R68, R90, R103, R109, R125, R138,
R153) whatever the state before. Where the manual gives no value the statement holds the model's own: the memory reads as
cleared (assumption 5), and the arbiter's last grant, the pedestal used, the stamp and the bytes sent (assumptions 6 and
26) and the debounce interval (assumption 34) are as State.reset has them. The levels of the input lines stay their
drivers' own, and a cable held pressed starts its debounce interval, by the model's reading (assumption 6). -/
def Obligations.FullResetRestoresEveryBlock : Prop :=
  ∀ s : State, exec .fullReset s = .next { State.reset with
    lines := { State.reset.lines with
      remoteLow := s.lines.remoteLow, shutterClosed := s.lines.shutterClosed, pfWarn := s.lines.pfWarn }
    seq := { State.reset.seq with debounceTimer := if s.lines.remoteLow = true then some 20#32 else none }
    free := s.free
    pending := s.pending }

/-! ## Events -/

/-- The lead event of a link (R161): the groups are taken in the group order, and the first that holds an event both
pending and enabled gives its lowest-numbered one; there is none exactly while the attention line is deasserted. The
example of the rule gives DRIFT_READY on the S-link and SESSION_STATE on the P-link. -/
def Obligations.LeadEventFollowsTheGroupOrder : Prop :=
  (∀ (l : LinkState) (n : Nat), l.lead = some n ↔
      ∃ before g after, l.order = before ++ g :: after ∧ n ∈ groupNumbers g ∧ l.live.getLsbD n = true ∧
        (∀ h ∈ before, ∀ m ∈ groupNumbers h, l.live.getLsbD m = false) ∧
        (∀ m ∈ groupNumbers g, m < n → l.live.getLsbD m = false)) ∧
    (∀ l : LinkState, LinkRight l → (l.lead.isSome = true ↔ l.attention = true)) ∧
    (∀ three : BitVec 16, three = eventBit .sessionState ||| eventBit .subOpened ||| eventBit .driftReady →
      LinkState.lead { LinkState.sAtReset with pendingSet := three } = some (eventNumber .driftReady) ∧
        LinkState.lead { LinkState.pAtReset with pendingSet := three } = some (eventNumber .sessionState))

/-- Acknowledge Events, Set Event Enable and Set Event Order change the sets and the order of the link they arrive on,
whose attention line is judged anew, and nothing else (R163 to R165). An order that names a group twice, or that has a
code above 3, is refused (R165, R179). That Acknowledge Events carries the pending set and the lead event after the
removal in that order, as a u16 and a u8 or FFh, is the model's reading, because chapter 10 gives this response no
layout (assumption 8). -/
def Obligations.EventRequestsServeTheirOwnLink : Prop :=
  ∀ (p : SelectPeriod) (s : State), QuietTaking p s →
    (4 ≤ byteCount p →
      exec (.acknowledgeEvents p) s = .next (answered p 0x25#8 .done []
          (acknowledgePayload ((s.link p.link).acknowledged (fieldEvents p 2)))
          (s.onLink p.link fun l => { l with
            pendingSet := l.pendingSet &&& ~~~fieldEvents p 2
            attention := (l.pendingSet &&& ~~~fieldEvents p 2) &&& l.enableSet != 0#16 })) ∧
        exec (.setEventEnable p) s = .next (answered p 0x26#8 .done [] []
          (s.onLink p.link fun l => { l with
            enableSet := fieldEvents p 2, attention := l.pendingSet &&& fieldEvents p 2 != 0#16 }))) ∧
    (6 ≤ byteCount p → (∃ k : Fin 4, 4 ≤ fieldU8 p (2 + k.val)) →
      exec (.setEventOrder p) s = .next (answered p 0x27#8 .refusedRange [2] [] s)) ∧
    (6 ≤ byteCount p →
      ∀ g : Fin 4 → EventGroup, (∀ k : Fin 4, groupNamed (fieldU8 p (2 + k.val)) = some (g k)) →
        (Function.Injective g → exec (.setEventOrder p) s = .next (answered p 0x27#8 .done [] []
          (s.onLink p.link fun l => { l with order := [g 0, g 1, g 2, g 3] }))) ∧
        (¬Function.Injective g →
          exec (.setEventOrder p) s = .next (answered p 0x27#8 .refusedRange [2] [] s)))

/-! ## Reads -/

/-- The reads of chapters 1 to 9 with no field of their own answer DONE with their payload on either link, in every
session state, and change nothing but the pending response (R25, R29, R50, R67, R88, R124, R137, R152, R162, R166). What
each of them carries stands byte by byte: each item at its offset, numbers with their low byte first and signed ones in
two's complement, codes in the order of the rules' lists, absent items as R169 says. Read Drift, Read Totals and Read
Events have the layouts of R173, R176 and R179; the bytes of a total past its width are free values (assumption 4), and
a link's order is four groups, as every step keeps it (R165). That a read without a layout table carries its items in
the order in which its rule lists them, with the widths used here, is the model's reading (assumption 8), and so is the
time remaining that Read Power judges outside a running session (assumption 38), which stands here by R42 and R140 in
every case. -/
def Obligations.ReadsChangeNothingButTheResponse : Prop :=
  (∀ (p : SelectPeriod) (s : State), QuietTaking p s → 2 ≤ byteCount p →
    exec (.readPartSettings p) s = .next (answered p 0x0c#8 .done [] (partSettingsPayload s) s) ∧
    exec (.readSequencer p) s = .next (answered p 0x0d#8 .done [] (sequencerPayload s) s) ∧
    exec (.readSensor p) s = .next (answered p 0x10#8 .done [] (sensorPayload s) s) ∧
    exec (.readRing p) s = .next (answered p 0x12#8 .done [] (ringPayload s) s) ∧
    exec (.readDrift p) s = .next (answered p 0x15#8 .done [] (driftPayload s) s) ∧
    exec (.readGuidance p) s = .next (answered p 0x16#8 .done [] (guidancePayload s) s) ∧
    exec (.readEngine p) s = .next (answered p 0x1c#8 .done [] (enginePayload s) s) ∧
    exec (.readTotals p) s = .next (answered p 0x20#8 .done [] (totalsPayload s) s) ∧
    exec (.readPower p) s = .next (answered p 0x23#8 .done [] (powerPayload (taken p s)) s) ∧
    exec (.readEvents p) s = .next (answered p 0x24#8 .done [] (eventsPayload (s.link p.link)) s) ∧
    exec (.readStatus p) s = .next (answered p 0x28#8 .done [] (statusPayload p.link s) s)) ∧
  (∀ s : State,
    CarriesFields (sequencerPayload s) [(0, u32 s.seq.clock.toNat), (4, u8 (phaseCode s.seq.phase)),
      (5, presence 4 (fun c => u32 c.toNat) s.seq.cadenceTimer), (10, flag s.seq.keptExpiry),
      (11, presence 12 (fun c => u8 c.index.val ++ u16 c.sub ++ u8 (kindCode c.kind) ++ u32 c.start.toNat ++
        u32 c.plannedEnd.toNat) s.seq.current),
      (24, u8 s.seq.lightsSinceDark), (25, flag s.seq.remotePressed), (26, flag s.lines.trigger),
      (27, flag s.lines.shutterClose), (28, flag s.lines.shutterClosed),
      (29, presence 5 (fun f => u8 (shutterFaultCode f.1) ++ u32 f.2.toNat) s.seq.lastFault)] ∧
    (sequencerPayload s).length = 35 ∧
    CarriesFields (sensorPayload s) [(0, u16 s.port.width), (2, u16 s.port.height), (4, u8 (bayerCode s.port.bayer)),
      (5, u8 s.port.lanes), (6, u8 (laneSyncCode s.port.sync)),
      (7, match s.port.reception with
        | .idle => [0, 0, 0, 0]
        | .discarding => [1, 0, 0, 0]
        | .receiving n => [2, 1] ++ u16 n),
      (11, u16 s.port.lineCount), (13, u16 s.port.pixelCount), (15, flag s.port.frameFailed),
      (16, presence 4 (fun c => u32 c.toNat) s.port.readoutTimer),
      (21, presence 4 (fun t => u16 t.frameCounter ++ s16 t.temperature) s.port.lastTrailer),
      (26, codeOrFf (s.port.lastResult.map frameResultCode)), (27, u16 s.port.discarded)] ∧
    (sensorPayload s).length = 29 ∧
    CarriesFields (ringPayload s) [(0, u16 s.ring.lastOpened), (2, u16 s.ring.lastRetired), (4, [6])] ∧
    (∀ i : Fin 6, CarriesFields (ringPayload s) [(5 + 7 * i.val, u8 i.val),
      (6 + 7 * i.val, u8 (descStateCode s.ring.desc[i].state)),
      (7 + 7 * i.val, if s.ring.desc[i].state = .free then [0, 0, 0xff]
        else u16 s.ring.desc[i].sub ++ u8 (kindCode s.ring.desc[i].kind)),
      (10 + 7 * i.val, if s.ring.desc[i].state = .retired
        then codeOrFf (s.ring.desc[i].outcome.map outcomeCode) ++ codeOrFf (s.ring.desc[i].outcome.bind causeCode)
        else [0xff, 0xff])]) ∧
    (ringPayload s).length = 47 ∧
    CarriesFields (guidancePayload s) [
      (0, presence 6 (fun r => u16 r.sub ++ u32 r.midTime.toNat) s.guidance.reference),
      (7, u8 s.guidance.history.length),
      (8 + 15 * s.guidance.history.length, u8 (lockedCount s.guidance.stars)),
      (9 + 15 * s.guidance.history.length, [StarState.vacant, .locked, .missing, .lost, .hidden].flatMap fun st =>
        u8 (s.guidance.stars.toList.filter fun x => x.state == st).length),
      (14 + 15 * s.guidance.history.length, flag s.guidance.reacquisitionDue)] ∧
    (∀ k e, s.guidance.history[k]? = some e → CarriesFields (guidancePayload s) [(8 + 15 * k,
      u16 e.sub ++ u32 e.midTime.toNat ++ u16 e.phi ++ s24 e.tx ++ s24 e.ty ++ u8 (qualityCode e.quality))]) ∧
    (guidancePayload s).length = 15 + 15 * s.guidance.history.length ∧
    CarriesFields (enginePayload s) [(0, flag (s.power.state == .active && !s.power.changing)),
      (1, match s.engine.job with
        | .descriptor i => if s.ring.desc[i].state = .free then u8 2 ++ u8 i.val ++ [0, 0, 0, 0xff]
            else u8 2 ++ u8 i.val ++ [1] ++ u16 s.ring.desc[i].sub ++ u8 (descStateCode s.ring.desc[i].state)
        | job => u8 (jobCode job) ++ [0xff, 0, 0, 0, 0xff]),
      (7, u16 s.engine.tilesDone), (9, u16 (s.port.width / 64 * (s.port.height / 64))), (11, u8 (stopCode s.engine.stop)),
      (12, flag s.engine.clearPending), (13, flag s.engine.finishPending), (14, flag s.engine.previewPending),
      (15, u8 ((List.finRange 6).filter fun i => s.ring.desc[i].state == .waiting).length),
      (16, presence 2 u16 (if s.results.output = .valid then some s.results.pedestal else none)),
      (19, codeOrFf (s.results.lastPreviewEnd.map previewEndCode)), (20, flag s.engineHasWork)] ∧
    (enginePayload s).length = 21 ∧
    (s.engineHasWork = true ↔ s.engine.job ≠ .none ∨ s.engine.stop ≠ .none ∨ s.engine.clearPending = true ∨
      s.engine.finishPending = true ∨ s.engine.previewPending = true ∨ ∃ i : Fin 6, s.ring.desc[i].state = .waiting) ∧
    CarriesFields (powerPayload s) [(0, u8 (powerStateCode s.power.state)), (1, flag s.power.changing),
      (2, u8 (memoryStateCode s.power.memory)), (3, flag s.power.engineOn), (4, [if s.power.waiting then 0 else 0xff]),
      (5, flag s.power.stayAwake), (6, presence 4 (fun t => u32 (t - s.seq.clock).toNat) s.power.reserveTimer),
      (11, flag s.power.wakePending), (12, codeOrFf (s.power.lastWake.map wakeCauseCode)),
      (13, codeOrFf (s.power.lastRefusal.map refusalCauseCode)), (14, flag s.lines.pfWarn),
      (15, flag (s.lines.pfWarn && s.holdReady)), (16, flag (s.power.state == .active && !s.power.changing)),
      (17, flag s.plan.autoDoze), (18, flag (!s.power.stayAwake)), (19, flag (!s.engineHasWork)),
      (20, flag s.pLink.bulkRead.isNone), (21, flag s.reading.isNone), (22, flag (s.timeRemaining.all (250 < ·))),
      (23, flag (!(s.power.waiting && (s.session.state == .idle || s.session.state == .lost))))] ∧
    (powerPayload s).length = 24 ∧ TimeRemainingRight s ∧
    (∀ l : Link, CarriesFields (statusPayload l s) [(0, [0x54, 0x9c, 0x01, 0x01]),
      (4, [match l with | .p => 0 | .s => 1]), (5, u8 (sessionStateCode s.session.state)),
      (6, codeOrFf (s.session.pauseCause.map pauseCauseCode)), (7, flag s.session.referenceSet),
      (8, u8 s.session.activePlan.val), (9, codeOrFf (s.session.pendingPlan.map Fin.val)),
      (10, u8 (phaseCode s.seq.phase)), (11, u16 s.ring.lastOpened), (13, u16 s.ring.lastRetired),
      (15, u8 (powerStateCode s.power.state)), (16, flag s.power.changing), (17, flag s.power.stayAwake),
      (18, flag s.power.waiting), (19, flag s.lines.pfWarn), (20, ((enginePayload s).drop 1).take 6),
      (26, ((enginePayload s).drop 15).take 1), (27, u16 ((s.link l).pendingSet &&& 0x7fff#16).toNat),
      (29, u16 ((s.link l).enableSet &&& 0x7fff#16).toNat), (31, codeOrFf (s.link l).lead),
      (32, flag (s.link l).attention)] ∧ (statusPayload l s).length = 33) ∧
    partSettingsPayload s = [BitVec.ofNat 8 s.session.holdReserve, if s.session.remoteWake = true then 1 else 0] ∧
    (s.guidance.drift = none → driftPayload s = List.replicate 10 0) ∧
    (∀ d, s.guidance.drift = some d →
      CarriesFields (driftPayload s) [(0, [1]), (1, u16 d.sub),
        (3, match d.residual with
          | none => [0, 0, 0, 0, 0]
          | some (ex, ey) => [1] ++ s16 ex ++ s16 ey),
        (8, u8 d.matched), (9, u8 (16 * poseSourceCode d.source + driftResultCode d.result))] ∧
      (driftPayload s).length = 10) ∧
    (∀ t : Totals, t = s.session.totals →
      (∀ offset total, (offset, total) ∈ [(0, t.subsOpened), (2, t.lightsMerged), (4, t.lightsGroundOnly),
          (6, t.rejectedShake), (8, t.rejectedMoved), (10, t.rejectedGeometry), (12, t.rejectedPaused),
          (14, t.rejectedAbandoned), (16, t.skipped), (18, t.darksMerged), (20, t.darksDiscarded)] →
        total < 65536 → CarriesFields (totalsPayload s) [(offset, u16 total)]) ∧
      (∀ offset total, (offset, total) ∈ [(22, t.rejectedCells), (28, t.skyMs), (34, t.groundMs)] →
        total < 2 ^ 48 → CarriesFields (totalsPayload s) [(offset, u32 total ++ u16 (total / 2 ^ 32))])) ∧
    CarriesFields (totalsPayload s) [(40, u32 s.session.runTime)] ∧ (totalsPayload s).length = 44) ∧
  (∀ (l : LinkState) (a b c d : EventGroup), l.order = [a, b, c, d] →
    CarriesFields (eventsPayload l) [(0, u16 (l.pendingSet &&& 0x7fff#16).toNat),
      (2, u16 (l.enableSet &&& 0x7fff#16).toNat), (4, u8 (groupCode a)), (5, u8 (groupCode b)), (6, u8 (groupCode c)),
      (7, u8 (groupCode d)), (8, codeOrFf l.lead)] ∧ (eventsPayload l).length = 9) ∧
  (∀ n : Nat, u8 n = [BitVec.ofNat 8 n] ∧ u16 n = [BitVec.ofNat 8 n, BitVec.ofNat 8 (n / 256)] ∧
    u32 n = u16 n ++ u16 (n / 65536) ∧ codeOrFf (some n) = u8 n) ∧
  (∀ i : Int, s16 i = u16 (i % 65536).toNat ∧
    s24 i = u16 (i % 16777216).toNat ++ u8 ((i % 16777216).toNat / 65536)) ∧
  codeOrFf none = [0xff] ∧ flag false = [0] ∧ flag true = [1] ∧
  (∀ (width : Nat) (enc : Nat → List Byte) (n : Nat),
    presence width enc none = 0 :: List.replicate width 0 ∧ presence width enc (some n) = 1 :: enc n) ∧
  [SessionState.idle, .arming, .armed, .referencing, .integrating, .paused, .draining, .finishing, .finished, .lost].map
    sessionStateCode = List.range 10 ∧
  [PauseCause.request, .remote, .moved, .starless, .sensor, .shutter, .hold].map pauseCauseCode = List.range 7 ∧
  [Phase.idle, .waitStart, .waitShutter, .exposing, .waitOpen].map phaseCode = List.range 5 ∧
  [SubKind.light, .dark].map kindCode = List.range 2 ∧
  [ShutterFault.closeTimeout, .openTimeout].map shutterFaultCode = List.range 2 ∧
  [Bayer.rggb, .grbg, .gbrg, .bggr].map bayerCode = List.range 4 ∧
  [LaneSync.synced, .awaitingFrameStart].map laneSyncCode = List.range 2 ∧
  [FrameResult.passed, .failedShape, .failedTruncated, .failedTimeout].map frameResultCode = List.range 4 ∧
  [DescState.free, .exposing, .reading, .waiting, .measuring, .merging, .retired].map descStateCode = List.range 7 ∧
  [SubOutcome.merged, .groundOnly .drift, .rejected .moved, .partialMerge, .darkMerged, .darkDiscarded .noSlot].map
    outcomeCode = List.range 6 ∧
  [SubOutcome.groundOnly .noStars, .groundOnly .drift, .groundOnly .referenceFailed, .rejected .shake, .rejected .moved,
    .rejected .geometry, .rejected .paused, .rejected .abandoned, .darkDiscarded .noSlot,
    .darkDiscarded .slotFull].map causeCode = (List.range 10).map some ∧
  [Quality.steady, .shaken, .moved].map qualityCode = List.range 3 ∧
  [Job.none, .planeClear, .descriptor 0, .preview, .finish].map jobCode = List.range 5 ∧
  [StopRequest.none, .hold, .close].map stopCode = List.range 3 ∧
  [PreviewEnd.completed, .droppedHold, .droppedClose].map previewEndCode = List.range 3 ∧
  [PowerState.active, .doze, .hold, .standby].map powerStateCode = List.range 4 ∧
  [MemoryState.active, .selfRefresh, .off].map memoryStateCode = List.range 3 ∧
  [WakeCause.remote, .pLink, .sLink, .alarm, .supplyReturn].map wakeCauseCode = List.range 5 ∧
  [RefusalCause.notIdle, .stayAwake, .woken, .busyChanging].map refusalCauseCode = List.range 4 ∧
  [PoseSource.reported, .predicted, .reference].map poseSourceCode = List.range 3 ∧
  [DriftResult.applied, .exceeded, .tooFew].map driftResultCode = List.range 3 ∧
  [EventGroup.session, .subs, .guidance, .power].map groupCode = List.range 4

/-- Read Star Table gives the 24 entries in index order, 744 bytes in all, and Read Dark Library the four slots and the
markers (R88, R99, R174, R175), each field at the offset its rule prints. The bytes of a VACANT entry or an EMPTY slot
that have no meaning are free values, and the model's counter of them goes on by one (assumption 2); so are those of a
last-used sub number that nothing has written since its slot was taken EMPTY (assumption 39). Nothing else of the part
changes. Read Plan, Read Sub Outcome and Read Tiles answer for the slot, sub or tile they name and refuse one that does
not exist, naming the field; a tile count is brought into 1 to 512 (R21, R66, R105). The plan record with its last byte,
the sub outcome record, for each form of a pose, and the tile entry stand field by field, with their codes in the order
of the rules' lists (R169, R170, R172, R177). -/
def Obligations.TableReadsAnswerForWhatTheyName : Prop :=
  (∀ (p : SelectPeriod) (s : State), QuietTaking p s → 2 ≤ byteCount p →
    exec (.readStarTable p) s =
      .next (answered p 0x17#8 .done [] (starTablePayload s) { s with free := s.free + 1 }) ∧
    exec (.readDarkLibrary p) s =
      .next (answered p 0x19#8 .done [] (darkLibraryPayload s) { s with free := s.free + 1 }) ∧
    (starTablePayload s).length = 744 ∧
    (∀ i : Fin 24, (starTablePayload s)[31 * i.val]? = some (BitVec.ofNat 8 i.val) ∧
      (starTablePayload s)[31 * i.val + 1]? = some (BitVec.ofNat 8 (starStateCode s.guidance.stars[i].state))) ∧
    (∀ i : Fin 4,
      let slot := s.darks.slots[i]
      CarriesFields (darkLibraryPayload s) [(6 * i.val, u8 i.val), (6 * i.val + 1, u8 (slotStateCode slot.state))] ∧
      (slot.state ≠ .empty →
        CarriesFields (darkLibraryPayload s) [(6 * i.val + 2, u8 slot.band), (6 * i.val + 3, u8 slot.count)] ∧
        (slot.lastUsed ≠ 0 → CarriesFields (darkLibraryPayload s) [(6 * i.val + 4, u16 slot.lastUsed)]))) ∧
    (∀ i : Fin 24,
      let star := s.guidance.stars[i]
      star.state ≠ .vacant → CarriesFields (starTablePayload s) [(31 * i.val + 2, s32 star.refX),
        (31 * i.val + 6, s32 star.refY), (31 * i.val + 10, u32 star.flux),
        (31 * i.val + 14, match star.lastPos with
          | none => List.replicate 9 0
          | some (x, y) => [1] ++ s32 x ++ s32 y),
        (31 * i.val + 23, match star.lastResidual with
          | none => List.replicate 5 0
          | some (ex, ey) => [1] ++ s16 ex ++ s16 ey),
        (31 * i.val + 28, u8 star.missCount), (31 * i.val + 29, u16 star.lastFound)]) ∧
    CarriesFields (darkLibraryPayload s) [(24, u8 s.darks.useOrder.length ++ s.darks.useOrder.flatMap (fun i => u8 i.val) ++
      codeOrFf (s.darks.mergeTarget.map Fin.val) ++ codeOrFf (s.darks.inUse.map Fin.val))] ∧
    [SlotState.empty, .building, .ready].map slotStateCode = List.range 3 ∧
    [StarState.vacant, .locked, .missing, .lost, .hidden].map starStateCode = List.range 5) ∧
  (∀ (p : SelectPeriod) (s : State), QuietTaking p s →
    (3 ≤ byteCount p →
      (∀ i : Fin 4, fieldU8 p 2 = i.val →
        exec (.readPlan p) s = .next (answered p 0x09#8 .done [] (readPlanPayload s i) s)) ∧
      (4 ≤ fieldU8 p 2 → exec (.readPlan p) s = .next (answered p 0x09#8 .refusedRange [2] [] s))) ∧
    (4 ≤ byteCount p →
      (∀ i : Fin 6, s.ring.desc[i].state ≠ .free → s.ring.desc[i].sub = fieldU16 p 2 →
        (∀ j : Fin 6, s.ring.desc[j].state ≠ .free → s.ring.desc[j].sub = fieldU16 p 2 → j = i) →
        exec (.readSubOutcome p) s = .next (answered p 0x11#8 .done [] (subOutcomeRecord i s.ring.desc[i]) s)) ∧
      ((∀ j : Fin 6, s.ring.desc[j].state = .free ∨ s.ring.desc[j].sub ≠ fieldU16 p 2) →
        exec (.readSubOutcome p) s = .next (answered p 0x11#8 .refusedRange [2] [] s))) ∧
    (6 ≤ byteCount p →
      (s.tileCount ≤ fieldU16 p 2 → exec (.readTiles p) s = .next (answered p 0x1b#8 .refusedRange [2] [] s)) ∧
      (fieldU16 p 2 < s.tileCount →
        let n := min (max 1 (min (fieldU16 p 4) 512)) (s.tileCount - fieldU16 p 2)
        let out := 1 ≤ fieldU16 p 4 ∧ fieldU16 p 4 ≤ 512
        exec (.readTiles p) s = .next (answered p 0x1b#8 (if out then .done else .doneClamped) (if out then [] else [4])
          (u16 n ++ (List.range n).flatMap fun k =>
            tileRecord (regionRead TileEntry.default s.tileMap (fieldU16 p 2 + k))) s)))) ∧
  (∀ x : Plan, CarriesFields (planRecord x) [(0, u32 x.subLength), (4, u32 x.gap), (8, u8 (triggerModeCode x.triggerMode)),
    (9, u16 x.subLimit), (11, u16 x.durationLimit), (13, flag x.autoFinish), (14, u8 x.darkCadence), (15, u8 x.darkMinimum),
    (16, u16 x.blackLevel), (18, u8 x.rejectK), (19, u8 x.rejectMin), (20, u16 x.floorVariance), (22, u16 x.starThreshold),
    (24, u8 x.windowRadius), (25, u16 x.driftLimit), (27, u16 x.outputPedestal), (29, flag x.autoDoze),
    (30, flag x.resumeAfterHold)] ∧ (planRecord x).length = 31) ∧
  (∀ (s : State) (i : Fin 4),
    (s.session.activePlan = i → readPlanPayload s i = planRecord s.session.plans[i] ++ [1]) ∧
    (s.session.activePlan ≠ i → s.session.pendingPlan = some i →
      readPlanPayload s i = planRecord s.session.plans[i] ++ [2]) ∧
    (s.session.activePlan ≠ i → s.session.pendingPlan ≠ some i →
      readPlanPayload s i = planRecord s.session.plans[i] ++ [0])) ∧
  (∀ (i : Fin 6) (d : Descriptor), CarriesFields (subOutcomeRecord i d) [(0, u8 i.val), (1, u8 (descStateCode d.state)),
    (2, u16 d.sub), (4, u8 (kindCode d.kind)),
    (5, match d.temperature with
      | none => [0, 0, 0]
      | some t => [1] ++ s16 t),
    (8, u32 d.start.toNat), (12, u32 d.exposure),
    (16, match d.pose with
      | .absent => [0, 0, 0, 0, 0, 0, 0, 0, 0, 0xff]
      | .reported phi tx ty q => [1] ++ u16 phi ++ s24 tx ++ s24 ty ++ u8 (qualityCode q)
      | .predicted phi tx ty => [2] ++ u16 phi ++ s24 tx ++ s24 ty ++ [0xff]),
    (26, match d.residual with
      | none => [0, 0, 0, 0, 0]
      | some (ex, ey) => [1] ++ s16 ex ++ s16 ey),
    (31, u8 d.matched), (32, codeOrFf (d.calibration.map calibrationCode)), (33, codeOrFf (d.outcome.map outcomeCode)),
    (34, codeOrFf (d.outcome.bind causeCode)), (35, u32 d.rejectedCells), (39, u32 d.mergedSky),
    (43, u32 d.mergedGround), (47, planRecord d.snapshot)] ∧ (subOutcomeRecord i d).length = 78) ∧
  (∀ e : TileEntry, tileRecord e = [BitVec.ofNat 8 (tileClassCode e.tileClass), BitVec.ofNat 8 e.weight]) ∧
  (∀ i : Int, s32 i = u32 (i % 4294967296).toNat) ∧
  [TileClass.sky, .ground, .blend].map tileClassCode = List.range 3 ∧
  [TriggerMode.timed, .single, .remoteEdge, .remoteGate].map triggerModeCode = List.range 4 ∧
  [Calibration.exact, .neighbour, .blackLevel].map calibrationCode = List.range 3

/-! ## Sessions -/

/-- Arm on the P-link in IDLE, outside HOLD, is ACCEPTED: the totals and the run time are zeroed, the session is ARMING, a
plane clear is posted, the ring's numbers return to 0, a waiting request is given up with NOT_IDLE, and in DOZE the part
wakes (R3, R59, R141, R144). Nothing else changes. -/
def Obligations.ArmOpensASession : Prop :=
  ∀ (p : SelectPeriod) (s : State), p.link = .p → 2 ≤ byteCount p → s.power.state ≠ .standby → s.power.state ≠ .hold →
    s.session.state = .idle →
    exec (.arm p) s = .next (answered p 0x01#8 .accepted [] [] (wake .pLink (giveUpWaiting .notIdle
      (raise .sessionState { s with
        session := { s.session with totals := Totals.zero, runTime := 0, state := .arming, pauseCause := none }
        ring := { s.ring with lastOpened := 0, lastRetired := 0 }
        engine := { s.engine with clearPending := true } }))))

/-- Start on either link in ARMED, outside HOLD, is DONE: the reference flag, the counters and the run time are cleared,
the session is REFERENCING, and the sequencer takes up its cadence (R5, R27). In ARMING it is BUSY. The cadence taken up
afresh (R30): behind a closed cover, or while the open confirmation is awaited, the sequencer waits for the cover for
500 ms; else it waits for a start. In TIMED the Cadence Timer expires at once. Nothing outside the sequencer changes. -/
def Obligations.StartBeginsReferencing : Prop :=
  (∀ (p : SelectPeriod) (s : State), QuietTaking p s → 2 ≤ byteCount p → s.power.state ≠ .hold →
    (s.session.state = .armed →
      exec (.start p) s = .next (answered p 0x02#8 .done [] [] (cadenceAfresh (raise .sessionState { s with
        session := { s.session with
          state := .referencing, pauseCause := none, referenceSet := false, attempts := 0, movedCount := 0
          geometryCount := 0, runTime := 0 }
        seq := { s.seq with
          current := none, lightsSinceDark := 0, shutterTimer := none, wakeAlarm := none, lastFault := none } })))) ∧
    (s.session.state = .arming → exec (.start p) s = .next (answered p 0x02#8 .busy [] [] s))) ∧
  (∀ s : State,
    (s.lines.shutterClosed = true ∨ s.seq.phase = .waitOpen →
      cadenceAfresh s = { s with seq := { s.seq with
        phase := .waitOpen, shutterTimer := some (s.seq.clock + 500#32), keptExpiry := false
        cadenceTimer := if s.plan.triggerMode = .timed then some s.seq.clock else none } }) ∧
    (s.lines.shutterClosed = false → s.seq.phase ≠ .waitOpen →
      cadenceAfresh s = { s with seq := { s.seq with
        phase := .waitStart, shutterTimer := none, keptExpiry := false
        cadenceTimer := if s.plan.triggerMode = .timed then some s.seq.clock else none } }))

/-- Pause in a running state is DONE: the session is PAUSED (REQUEST) and opens no sub (R6, R43); the engine, the
guidance, the library, the memory and the Sensor Port are left alone. What the sequencer does, phase by phase (R43): in
WAIT_START it enters IDLE; in WAIT_SHUTTER, with the cover not yet closed, SHUTTER_CLOSE is released and the wait for
the open cover ends at once in IDLE (R41); in WAIT_OPEN it stays; a light that exposes is cut, retired REJECTED (PAUSED)
with TRIGGER deasserted, and the sequencer enters IDLE; a dark that exposes is cut so too and its cover released, and
the sequencer waits 500 ms for the cover to open, or enters IDLE where it is open already. -/
def Obligations.PauseStopsARunningSession : Prop :=
  ∀ (p : SelectPeriod) (s : State), QuietTaking p s → 2 ≤ byteCount p → s.running = true →
    let paused : State := raise .sessionState { s with
      session := { s.session with state := .paused, pauseCause := some .request } }
    let stopped : Sequencer := { s.seq with phase := .idle, cadenceTimer := none, keptExpiry := false, wakeAlarm := none }
    (∃ t, exec (.pause p) s = .next (answered p 0x03#8 .done [] [] t) ∧
      t.session.state = .paused ∧ t.session.pauseCause = some .request ∧
      t.engine = s.engine ∧ t.guidance = s.guidance ∧ t.darks = s.darks ∧ t.dram = s.dram ∧ t.port = s.port) ∧
    (s.seq.phase = .waitStart → exec (.pause p) s = .next (answered p 0x03#8 .done [] [] { paused with seq := stopped })) ∧
    (s.seq.phase = .waitShutter → s.lines.shutterClosed = false →
      exec (.pause p) s = .next (answered p 0x03#8 .done [] [] { paused with
        lines := { s.lines with shutterClose := false }, seq := { stopped with shutterTimer := none } })) ∧
    (s.seq.phase = .waitOpen → exec (.pause p) s = .next (answered p 0x03#8 .done [] [] paused)) ∧
    (∀ c, s.seq.phase = .exposing → s.seq.current = some c →
      let cut : State := retireRecord c.index (.rejected .paused) false paused
      (c.kind = .light → exec (.pause p) s = .next (answered p 0x03#8 .done [] [] { cut with
        lines := { s.lines with trigger := false }, seq := { stopped with current := none } })) ∧
      (c.kind = .dark → s.lines.shutterClosed = true →
        exec (.pause p) s = .next (answered p 0x03#8 .done [] [] { cut with
          lines := { s.lines with trigger := false, shutterClose := false }
          seq := { s.seq with
            phase := .waitOpen, shutterTimer := some (s.seq.clock + 500#32), current := none, wakeAlarm := none } })) ∧
      (c.kind = .dark → s.lines.shutterClosed = false →
        exec (.pause p) s = .next (answered p 0x03#8 .done [] [] { cut with
          lines := { s.lines with trigger := false, shutterClose := false }
          seq := { stopped with shutterTimer := none, current := none } })))

/-- Resume in PAUSED, outside HOLD, is DONE whatever the cause: two counters are cleared, the session returns to the
running state that the reference-set flag names, and the cadence is taken up afresh (R7, R30). The session then runs,
unless auto finish is set and a limit of the plan is met already, which drains it (R15, R16); where that drain posts the
finish in DOZE the wake's cause is ALARM by the model's reading (assumption 22). -/
def Obligations.ResumeReturnsToARunningState : Prop :=
  ∀ (p : SelectPeriod) (s : State), QuietTaking p s → 2 ≤ byteCount p → s.power.state ≠ .hold →
    s.session.state = .paused →
    let t := cadenceAfresh (raise .sessionState { s with
      session := { s.session with
        attempts := 0, movedCount := 0, pauseCause := none
        state := if s.session.referenceSet = true then .integrating else .referencing } })
    let met := s.plan.subLimit ≤ s.session.totals.subsOpened ∨
      (s.plan.durationLimit ≠ 0 ∧ 60000 * s.plan.durationLimit ≤ s.session.runTime)
    ((s.plan.autoFinish = false ∨ ¬met) → exec (.resume p) s = .next (answered p 0x04#8 .done [] [] t)) ∧
    (s.plan.autoFinish = true → met → ∃ u, exec (.resume p) s = .next (answered p 0x04#8 .done [] [] u) ∧
      u = enterDraining .alarm (t.onLink p.link fun l => { l with
        response := none, sent := List.replicate (byteCount p) 0xff#8 }))

/-- Finish in a running state or in PAUSED is ACCEPTED, in HOLD too (R12). What the sequencer does, phase by phase
(R44): in WAIT_START it enters IDLE; in WAIT_SHUTTER, with the cover not yet closed, SHUTTER_CLOSE is released and the
wait for the open cover ends at once in IDLE (R41); in EXPOSING the exposure goes on; in WAIT_OPEN and IDLE it stays.
With nothing in flight the finish is posted at once, which wakes a dozing part with cause P_LINK; with a descriptor in
flight the session stays DRAINING (R13, R141). -/
def Obligations.FinishDrainsTheSession : Prop :=
  ∀ (p : SelectPeriod) (s d : State), p.link = .p → 2 ≤ byteCount p → s.power.state ≠ .standby →
    (s.running = true ∨ s.session.state = .paused) →
    let stopped : Sequencer := { s.seq with phase := .idle, cadenceTimer := none, keptExpiry := false, wakeAlarm := none }
    ((s.seq.phase = .waitStart ∧ d = { s with seq := stopped }) ∨
      (s.seq.phase = .waitShutter ∧ s.lines.shutterClosed = false ∧ d = { s with
        lines := { s.lines with shutterClose := false }, seq := { stopped with shutterTimer := none } }) ∨
      ((s.seq.phase = .exposing ∨ s.seq.phase = .waitOpen ∨ s.seq.phase = .idle) ∧ d = s)) →
    ((∀ i : Fin 6, s.ring.desc[i].inFlight = false) →
      exec (.finish p) s = .next (answered p 0x05#8 .accepted [] [] (wake .pLink (raise .sessionState { d with
        session := { s.session with state := .finishing, pauseCause := none }
        engine := { s.engine with finishPending := true } })))) ∧
    ((∃ i : Fin 6, s.ring.desc[i].inFlight = true) →
      exec (.finish p) s = .next (answered p 0x05#8 .accepted [] [] (raise .sessionState { d with
        session := { s.session with state := .draining, pauseCause := none } })))

/-- Extend in FINISHED below the sub limit is DONE: the run time and the three counters are zeroed, the output marker is
EMPTY, and the session runs again with its cadence taken up afresh; at the sub limit it is refused (R14, R46, R125). -/
def Obligations.ExtendReopensAFinishedSession : Prop :=
  ∀ (p : SelectPeriod) (s : State), p.link = .p → 2 ≤ byteCount p → s.power.state ≠ .standby → s.power.state ≠ .hold →
    s.session.state = .finished →
    (s.session.totals.subsOpened < s.plan.subLimit →
      exec (.extend p) s = .next (answered p 0x06#8 .done [] [] (cadenceAfresh (raise .sessionState { s with
        session := { s.session with
          runTime := 0, attempts := 0, movedCount := 0, geometryCount := 0, pauseCause := none
          state := if s.session.referenceSet = true then .integrating else .referencing }
        results := { s.results with output := .empty } })))) ∧
    (s.plan.subLimit ≤ s.session.totals.subsOpened →
      exec (.extend p) s = .next (answered p 0x06#8 .refusedState [] [] s))

/-- Close Session outside IDLE is DONE in any power state: the session, its totals, the ring, the guidance tables and
the markers are given up, the engine drops its work and ends its tile, the lines are released, the readout timer is
cancelled and a frame being received is discarded; the plans, the Tile Map, the Dark Library and the settings are kept
(R17, R45, R58, R65, R68, R122, R125). In IDLE it is refused. In STANDBY its taking has woken the part (R146), and with
a STANDBY request waiting it is a wake in DOZE (R141, R144). A job without tiles ends at once: it is the measurement of
a light that its quality rejects (R75, R122; which job has no tiles is assumption 11). At the end of the tile then in
progress the engine is free with none of its job's results, and the slot of a dark merge is emptied (R96, R122). That
the merge target and the calibration in use last until that end, where R90's table can be read otherwise, is the model's
reading (assumption 14), and that this tile writes nothing more to the memory its choice (assumption 15). That the tiles
done count reads 0 once the job has ended, at once or at its tile's end, is the model's choice and no rule's (assumption
40). -/
def Obligations.CloseSessionGivesUpTheSession : Prop :=
  (∀ (p : SelectPeriod) (s : State), p.link = .p → 2 ≤ byteCount p →
    let w := standbyWake .pLink s
    (s.power.state ≠ .standby → w = s) ∧
    (s.power.state = .standby → w.power = { s.power with
      state := .active, changing := true, lastWake := some .pLink }) ∧
    (s.session.state = .idle → exec (.closeSession p) s = .next (answered p 0x07#8 .refusedState [] [] w)) ∧
    (s.session.state ≠ .idle → ∃ t,
      exec (.closeSession p) s = .next (answered p 0x07#8 .done [] [] t) ∧
      t.session = { s.session with
        state := .idle, pauseCause := none, referenceSet := false, attempts := 0, movedCount := 0, geometryCount := 0
        runTime := 0, pendingPlan := none, totals := Totals.zero } ∧
      t.ring = Ring.atReset ∧ t.guidance = Guidance.cleared ∧ t.darks = s.darks ∧ t.tileMap = s.tileMap ∧
      t.power = (if s.power.waiting = true then wake .pLink w else w).power ∧ t.dram = w.dram ∧
      t.seq = { s.seq with
        phase := .idle, cadenceTimer := none, keptExpiry := false, wakeAlarm := none, shutterTimer := none
        current := none, lightsSinceDark := 0 } ∧
      t.port = { s.port with
        readoutTimer := none
        reception := match s.port.reception with
          | .receiving _ => .discarding
          | r => r } ∧
      t.lines = { s.lines with trigger := false, shutterClose := false } ∧
      (let dropped := { s.engine with clearPending := false, finishPending := false, previewPending := false }
       ((∃ i, s.engine.job = .descriptor i) ∧ s.engine.work = .measuring true none →
         t.engine = { dropped with job := .none, work := .none, tilesDone := 0, stop := .none }) ∧
       (¬((∃ i, s.engine.job = .descriptor i) ∧ s.engine.work = .measuring true none) →
         t.engine = { dropped with stop := if s.engine.job = .none then .none else .close })) ∧
      t.results.output = .empty ∧ t.results.preview = .empty ∧
      t.results.lastPreviewEnd = (if s.engine.previewPending = true ∨ s.engine.job = .preview then some .droppedClose
        else s.results.lastPreviewEnd))) ∧
  (∀ s : State, s.engine.job ≠ .none → s.engine.stop = .close →
    (s.measuring = true ∨ s.engine.tilesDone < s.tileCount) →
    let ended : State := { s with
      engine := { s.engine with job := .none, work := .none, tilesDone := 0, stop := .none }
      darks := { s.darks with inUse := none } }
    (s.darks.mergeTarget = none → exec .engineTileComplete s = .next ended) ∧
    (∀ k, s.darks.mergeTarget = some k → exec .engineTileComplete s = .next { ended with
      darks := { s.darks with
        slots := s.darks.slots.set k DarkSlot.emptied, useOrder := s.darks.useOrder.erase k
        mergeTarget := none, inUse := none } }))

/-! ## Plans and settings -/

/-- Write Plan writes a record whose fields are all in range as it stands, in a slot that the session does not hold
locked; into a slot that is active or pending in a running, draining or finishing session it is refused. Select Plan, on
either link, takes effect at once outside those states, with PLAN_SWITCHED where the active index changes, and is staged
in them (R20, R22, R170). Both are refused for a slot past 3, and Write Plan on the S-link (R20, R22). Every other
record is written with each numeric field brought to the nearer end of its range and each code that names no value at
its default, and the answer is DONE_CLAMPED with the offsets of the fields that were changed, in the order of the record
(R19, R20, R168, R170). -/
def Obligations.PlanRequestsWriteAndSelect : Prop :=
  (∀ (p : SelectPeriod) (s : State), QuietTaking p s →
    (34 ≤ byteCount p → p.link = .s → exec (.writePlan p) s = .next (answered p 0x08#8 .refusedLink [] [] s)) ∧
    (34 ≤ byteCount p → p.link = .p → 4 ≤ fieldU8 p 2 →
      exec (.writePlan p) s = .next (answered p 0x08#8 .refusedRange [2] [] s)) ∧
    (3 ≤ byteCount p → 4 ≤ fieldU8 p 2 →
      exec (.selectPlan p) s = .next (answered p 0x0a#8 .refusedRange [2] [] s)) ∧
    (3 ≤ byteCount p → ∀ i : Fin 4, fieldU8 p 2 = i.val →
      (s.planLocked = false → s.session.activePlan ≠ i →
        exec (.selectPlan p) s = .next (answered p 0x0a#8 .done [] [] (raise .planSwitched
          { s with session := { s.session with activePlan := i, pendingPlan := none } }))) ∧
      (s.session.activePlan = i →
        exec (.selectPlan p) s = .next (answered p 0x0a#8 .done [] []
          { s with session := { s.session with pendingPlan := none } })) ∧
      (s.planLocked = true → s.session.activePlan ≠ i →
        exec (.selectPlan p) s = .next (answered p 0x0a#8 .done [] []
          { s with session := { s.session with pendingPlan := some i } })))) ∧
  ∀ (p : SelectPeriod) (s : State), p.link = .p → s.power.state ≠ .standby → ∀ i : Fin 4, fieldU8 p 2 = i.val →
    (∀ plan : Plan, PlanInRange plan → p.bytes.drop 2 = planRecord plan → s.planLocked = false →
      exec (.writePlan p) s = .next (answered p 0x08#8 .done [] []
        { s with session := { s.session with plans := s.session.plans.set i plan } })) ∧
    (34 ≤ byteCount p → s.planLocked = true → (s.session.activePlan = i ∨ s.session.pendingPlan = some i) →
      exec (.writePlan p) s = .next (answered p 0x08#8 .refusedState [] [] s)) ∧
    (34 ≤ byteCount p → (s.planLocked = false ∨ (s.session.activePlan ≠ i ∧ s.session.pendingPlan ≠ some i)) →
      let num := fun raw lo hi : Nat => max lo (min raw hi)
      let mode := triggerModeNamed (fieldU8 p 11)
      let finish := boolNamed (fieldU8 p 16)
      let doze := boolNamed (fieldU8 p 32)
      let hold := boolNamed (fieldU8 p 33)
      let plan : Plan := {
        subLength := num (fieldU32 p 3) 500 900000, gap := num (fieldU32 p 7) 0 600000
        triggerMode := mode.getD .timed, subLimit := num (fieldU16 p 12) 1 65535
        durationLimit := num (fieldU16 p 14) 0 1440, autoFinish := finish.getD true
        darkCadence := fieldU8 p 17, darkMinimum := num (fieldU8 p 18) 1 64
        blackLevel := num (fieldU16 p 19) 0 4095, rejectK := num (fieldU8 p 21) 16 160
        rejectMin := num (fieldU8 p 22) 3 64, floorVariance := fieldU16 p 23
        starThreshold := num (fieldU16 p 25) 16 16383, windowRadius := num (fieldU8 p 27) 4 32
        driftLimit := num (fieldU16 p 28) 16 1024, outputPedestal := num (fieldU16 p 30) 0 4095
        autoDoze := doze.getD true, resumeAfterHold := hold.getD true }
      let changed : List (Nat × Bool) := [(3, plan.subLength != fieldU32 p 3), (7, plan.gap != fieldU32 p 7),
        (11, mode.isNone), (12, plan.subLimit != fieldU16 p 12), (14, plan.durationLimit != fieldU16 p 14),
        (16, finish.isNone), (18, plan.darkMinimum != fieldU8 p 18), (19, plan.blackLevel != fieldU16 p 19),
        (21, plan.rejectK != fieldU8 p 21), (22, plan.rejectMin != fieldU8 p 22),
        (25, plan.starThreshold != fieldU16 p 25), (27, plan.windowRadius != fieldU8 p 27),
        (28, plan.driftLimit != fieldU16 p 28), (30, plan.outputPedestal != fieldU16 p 30),
        (32, doze.isNone), (33, hold.isNone)]
      let fields := (changed.filter Prod.snd).map Prod.fst
      exec (.writePlan p) s = .next (answered p 0x08#8 (if fields = [] then .done else .doneClamped) fields []
        { s with session := { s.session with plans := s.session.plans.set i plan } }))

/-- Set Part Settings and Configure Sensor write in IDLE, each value brought into its range, and are answered DONE, or
DONE_CLAMPED with the offsets of the values that were changed. A hold reserve goes to the nearer end of its range, and a
remote wake code that names nothing is on (R25). A width or height goes to the nearer end of its range and down to a
multiple of 64, a Bayer code that names no phase is RGGB, and a lane count other than 2 or 4 is 4; the Tile Map returns
to its defaults and the Dark Library is emptied by a configuration, and a new lane count loses the lane sync (R48, R49,
R98, R103). -/
def Obligations.IdleRequestsWriteTheSettings : Prop :=
  ∀ (p : SelectPeriod) (s : State), p.link = .p → s.power.state ≠ .standby → s.session.state = .idle →
    (4 ≤ byteCount p →
      let reserve := if fieldU8 p 2 < 5 then 5 else if 120 < fieldU8 p 2 then 120 else fieldU8 p 2
      let wakes := boolNamed (fieldU8 p 3)
      let changed : List (Nat × Bool) := [(2, reserve != fieldU8 p 2), (3, wakes.isNone)]
      let fields := (changed.filter Prod.snd).map Prod.fst
      exec (.setPartSettings p) s = .next (answered p 0x0b#8 (if fields = [] then .done else .doneClamped) fields []
        { s with session := { s.session with holdReserve := reserve, remoteWake := wakes.getD true } })) ∧
    (8 ≤ byteCount p →
      let side := fun raw lo hi : Nat => if raw < lo then lo else if hi < raw then hi else raw / 64 * 64
      let width := side (fieldU16 p 2) 1024 6144
      let height := side (fieldU16 p 4) 768 4096
      let phase := bayerNamed (fieldU8 p 6)
      let lanes := if fieldU8 p 7 = 2 ∨ fieldU8 p 7 = 4 then fieldU8 p 7 else 4
      let changed : List (Nat × Bool) := [(2, width != fieldU16 p 2), (4, height != fieldU16 p 4), (6, phase.isNone),
        (7, lanes != fieldU8 p 7)]
      let fields := (changed.filter Prod.snd).map Prod.fst
      exec (.configureSensor p) s = .next (answered p 0x0f#8 (if fields = [] then .done else .doneClamped) fields [] { s with
        port := { s.port with
          width := width, height := height, bayer := phase.getD .rggb, lanes := lanes
          sync := if lanes = s.port.lanes then s.port.sync else .awaitingFrameStart
          lastTrailer := none, lastResult := none, discarded := 0 }
        tileMap := []
        darks := DarkLibrary.emptied }))

/-! ## Guidance, darks and tiles -/

/-- Report Pose (R72, R171): refused on the P-link; on the S-link refused for a quality code past 2, then refused while
the reference-set flag is clear, then STALE where no descriptor but a FREE one carries the sub number, where the one
that does is a DARK, or is MEASURING, MERGING or RETIRED; else, for a light EXPOSING, READING or WAITING, DONE, and its
pose is REPORTED with the values carried. Drop Star (R77, R78): refused for an index past 23, BUSY while a descriptor is
MEASURING, DONE with nothing changed for an entry that is VACANT already, and else DONE: the entry is VACANT, the
re-acquisition due flag says whether fewer than 8 entries are LOCKED, and STAR_COUNT_LOW is raised where 8 or more were.
What a VACANT entry holds in its other fields, which have no meaning, is the model's (assumption 29). -/
def Obligations.PoseReportsAndStarDropsTakeEffect : Prop :=
  (∀ (p : SelectPeriod) (s : State), QuietTaking p s → 13 ≤ byteCount p →
    let stale := exec (.reportPose p) s = .next (answered p 0x13#8 .stale [] [] s)
    (p.link = .p → exec (.reportPose p) s = .next (answered p 0x13#8 .refusedLink [] [] s)) ∧
    (p.link = .s → 3 ≤ fieldU8 p 12 → exec (.reportPose p) s = .next (answered p 0x13#8 .refusedRange [12] [] s)) ∧
    (p.link = .s → fieldU8 p 12 < 3 → s.session.referenceSet = false →
      exec (.reportPose p) s = .next (answered p 0x13#8 .refusedState [] [] s)) ∧
    (p.link = .s → s.session.referenceSet = true → ∀ q, [Quality.steady, .shaken, .moved][fieldU8 p 12]? = some q →
      ((∀ j : Fin 6, s.ring.desc[j].state = .free ∨ s.ring.desc[j].sub ≠ fieldU16 p 2) → stale) ∧
      ∀ i : Fin 6, s.ring.desc[i].state ≠ .free → s.ring.desc[i].sub = fieldU16 p 2 →
        (∀ j : Fin 6, s.ring.desc[j].state ≠ .free → s.ring.desc[j].sub = fieldU16 p 2 → j = i) →
        (s.ring.desc[i].kind = .dark → stale) ∧
        (s.ring.desc[i].state ∈ [.measuring, .merging, .retired] → stale) ∧
        (s.ring.desc[i].kind = .light → s.ring.desc[i].state ∈ [.exposing, .reading, .waiting] →
          exec (.reportPose p) s = .next (answered p 0x13#8 .done [] [] { s with
            ring := { s.ring with desc := s.ring.desc.set i { s.ring.desc[i] with
              pose := .reported (fieldU16 p 4) (fieldS24 p 6) (fieldS24 p 9) q } } })))) ∧
  (∀ (p : SelectPeriod) (s : State), QuietTaking p s → 3 ≤ byteCount p →
    (24 ≤ fieldU8 p 2 → exec (.dropStar p) s = .next (answered p 0x14#8 .refusedRange [2] [] s)) ∧
    ∀ i : Fin 24, fieldU8 p 2 = i.val →
      ((∃ j : Fin 6, s.ring.desc[j].state = .measuring) →
        exec (.dropStar p) s = .next (answered p 0x14#8 .busy [] [] s)) ∧
      ((∀ j : Fin 6, s.ring.desc[j].state ≠ .measuring) → s.guidance.stars[i].state = .vacant →
        exec (.dropStar p) s = .next (answered p 0x14#8 .done [] [] s)) ∧
      ((∀ j : Fin 6, s.ring.desc[j].state ≠ .measuring) → s.guidance.stars[i].state ≠ .vacant →
        let stars := s.guidance.stars.set i Star.vacated
        let due := decide (lockedCount stars < 8)
        let t : State := { s with guidance := { s.guidance with stars := stars, reacquisitionDue := due } }
        let low := 8 ≤ lockedCount s.guidance.stars ∧ lockedCount stars < 8
        exec (.dropStar p) s = .next (answered p 0x14#8 .done [] [] (if low then raise .starCountLow t else t))))

/-- Clear Dark Slot empties the slot it names and takes it from the use order, and is BUSY for the merge target and for
the calibration in use; a slot that does not exist is refused (R97). -/
def Obligations.ClearDarkSlotEmptiesTheSlot : Prop :=
  ∀ (p : SelectPeriod) (s : State), p.link = .p → s.power.state ≠ .standby → 3 ≤ byteCount p →
    (4 ≤ fieldU8 p 2 → exec (.clearDarkSlot p) s = .next (answered p 0x18#8 .refusedRange [2] [] s)) ∧
    ∀ i : Fin 4, fieldU8 p 2 = i.val →
      ((s.darks.mergeTarget = some i ∨ s.darks.inUse = some i) →
        exec (.clearDarkSlot p) s = .next (answered p 0x18#8 .busy [] [] s)) ∧
      (s.darks.mergeTarget ≠ some i → s.darks.inUse ≠ some i →
        exec (.clearDarkSlot p) s = .next (answered p 0x18#8 .done [] [] { s with
          darks := { s.darks with
            slots := s.darks.slots.set i DarkSlot.emptied, useOrder := s.darks.useOrder.erase i } }))

/-- Write Tiles in IDLE or ARMED writes each carried entry, brought into range, to its tile and no other tile, up to the
last tile; the answer is DONE_CLAMPED when an entry was changed or left out, with an empty field list either way, and
its payload carries the number of entries written, the number of those changed, and their tile indexes (R104, R177). A
list of more than 512 entries, for which R104 names no answer, is carried out whole, by the model's choice (assumption
16). A first tile at or past the number of tiles and an empty list are refused and write nothing (R104); that the
refusal names the first tile index, the entry count or both is the model's reading (assumption 17). -/
def Obligations.WriteTilesWritesARunOfEntries : Prop :=
  (∀ (p : SelectPeriod) (s : State), p.link = .p → s.power.state ≠ .standby →
    (s.session.state = .idle ∨ s.session.state = .armed) → s.memoryWf = true →
    fieldU16 p 2 < s.tileCount → 1 ≤ fieldU16 p 4 → 6 + 2 * fieldU16 p 4 ≤ byteCount p →
    let first := fieldU16 p 2
    let n := min (fieldU16 p 4) (s.tileCount - first)
    let changed := (List.range n).filter fun k => (carriedEntry p k).2
    ∃ t, exec (.writeTiles p) s = .next (answered p 0x1a#8
        (if n = fieldU16 p 4 ∧ (∀ k < n, (carriedEntry p k).2 = false) then .done else .doneClamped) []
        (u16 n ++ u16 changed.length ++ changed.flatMap fun k => u16 (first + k)) t) ∧
      t = { s with tileMap := t.tileMap } ∧
      (∀ k : Nat, regionRead TileEntry.default t.tileMap k =
        if first ≤ k ∧ k < first + n then (carriedEntry p (k - first)).1
        else regionRead TileEntry.default s.tileMap k) ∧
      ∀ k : Nat,
        let code := fieldU8 p (6 + 2 * k)
        let weight := fieldU8 p (7 + 2 * k)
        (carriedEntry p k).1 = ⟨(tileClassNamed code).getD .sky, min weight 16⟩ ∧
          ((carriedEntry p k).2 = true ↔ 3 ≤ code ∨ 16 < weight)) ∧
  (∀ (p : SelectPeriod) (s : State), p.link = .p → s.power.state ≠ .standby →
    (s.session.state = .idle ∨ s.session.state = .armed) → 6 + 2 * fieldU16 p 4 ≤ byteCount p →
    (s.tileCount ≤ fieldU16 p 2 → 1 ≤ fieldU16 p 4 →
      exec (.writeTiles p) s = .next (answered p 0x1a#8 .refusedRange [2] [] s)) ∧
    (fieldU16 p 2 < s.tileCount → fieldU16 p 4 = 0 →
      exec (.writeTiles p) s = .next (answered p 0x1a#8 .refusedRange [4] [] s)) ∧
    (s.tileCount ≤ fieldU16 p 2 → fieldU16 p 4 = 0 →
      exec (.writeTiles p) s = .next (answered p 0x1a#8 .refusedRange [2, 4] [] s)))

/-! ## Results -/

/-- Read Block in FINISHED carries the bytes of the output stream from its offset on, cut short at the end of the
stream, at once while the memory can be read, and waits for it in ACTIVE with CHANGING set and in DOZE, where it is a
wake, kept during the entry; an offset at or past the end is refused (R131, R132, R141, R157, R180). Outside FINISHED it
is REFUSED_STATE, in HOLD too, where that check comes first (R131). -/
def Obligations.ReadBlockCarriesTheOutputStream : Prop :=
  (∀ (p : SelectPeriod) (s : State), p.link = .p → 10 ≤ byteCount p → s.session.state = .finished →
    s.power.state ≠ .standby → s.power.state ≠ .hold →
    let offset := fieldU32 p 2
    let length := fieldU32 p 6
    let size := 2 * s.port.width * s.port.height
    let n := min (min length 32768) (size - offset)
    let o : ReqOutcome := if length ≤ 32768 then .done else .doneClamped
    let fields : List Nat := if length ≤ 32768 then [] else [6]
    (size ≤ offset → exec (.readBlock p) s = .next (answered p 0x1d#8 .refusedRange [2] [] s)) ∧
    (offset < size → s.powered = true →
      exec (.readBlock p) s = .next (answered p 0x1d#8 o fields
        (u16 n ++ (List.range n).map fun k => streamByte s.dram.output (offset + k))
        { s with engine := { s.engine with lastGranted := .link } })) ∧
    (offset < size → s.power.state = .active → s.power.changing = true →
      exec (.readBlock p) s = .next (answeredLater p 0x1d#8 o fields [] ⟨.output, offset, n⟩ s)) ∧
    (offset < size → s.power.state = .doze →
      exec (.readBlock p) s = .next (answeredLater p 0x1d#8 o fields [] ⟨.output, offset, n⟩ { s with
        power := if s.power.changing = true then { s.power with wakePending := true, lastWake := some .pLink }
          else { s.power with state := .active, changing := true, lastWake := some .pLink } }))) ∧
  (∀ (p : SelectPeriod) (s : State), p.link = .p → 10 ≤ byteCount p → s.session.state ≠ .finished →
    s.power.state ≠ .standby → exec (.readBlock p) s = .next (answered p 0x1d#8 .refusedState [] [] s))

/-- Read Preview answers while the preview marker is VALID, with the stamp before the byte count, and is refused while
it is EMPTY, and for an offset at or past the end of the stream; a length above 32,768 is clamped, and a run past the
end is cut short (R131, R136, R180). It carries its bytes at once in a powered part. In DOZE it is a wake, and in ACTIVE
with CHANGING set none; in both its response waits for the bytes, with the stamp as it stands (R132, R141, R157). A bulk
read that waited takes its bytes when the memory can be read (R157). The stamp's 16 bytes stand one by one; those of a
total past its width are free values (assumption 4). -/
def Obligations.ReadPreviewCarriesItsStampAndStream : Prop :=
  (∀ (p : SelectPeriod) (s : State), p.link = .p → 10 ≤ byteCount p → s.power.state ≠ .standby →
    let offset := fieldU32 p 2
    let length := fieldU32 p 6
    let size := 2 * (s.port.width / 8) * (s.port.height / 8)
    let n := min (min length 32768) (size - offset)
    let o : ReqOutcome := if length ≤ 32768 then .done else .doneClamped
    let fields : List Nat := if length ≤ 32768 then [] else [6]
    let stamp := stampRecord s.results.stamp
    (s.results.preview = .empty → exec (.readPreview p) s = .next (answered p 0x1f#8 .refusedState [] [] s)) ∧
    (s.results.preview = .valid → s.power.state ≠ .hold → size ≤ offset →
      exec (.readPreview p) s = .next (answered p 0x1f#8 .refusedRange [2] [] s)) ∧
    (s.results.preview = .valid → s.powered = true → offset < size →
      exec (.readPreview p) s = .next (answered p 0x1f#8 o fields
        (stamp ++ u16 n ++ (List.range n).map fun k => streamByte s.dram.preview (offset + k))
        { s with engine := { s.engine with lastGranted := .link } })) ∧
    (s.results.preview = .valid → s.power.state = .active → s.power.changing = true → offset < size →
      exec (.readPreview p) s = .next (answeredLater p 0x1f#8 o fields stamp ⟨.preview, offset, n⟩ s)) ∧
    (s.results.preview = .valid → s.power.state = .doze → offset < size →
      exec (.readPreview p) s = .next (answeredLater p 0x1f#8 o fields stamp ⟨.preview, offset, n⟩ { s with
        power := if s.power.changing = true then { s.power with wakePending := true, lastWake := some .pLink }
          else { s.power with state := .active, changing := true, lastWake := some .pLink } }))) ∧
  (∀ x : PreviewStamp,
    (x.note.lightsMerged < 65536 → CarriesFields (stampRecord x) [(0, u16 x.note.lightsMerged)]) ∧
    (x.note.lightsGroundOnly < 65536 → CarriesFields (stampRecord x) [(2, u16 x.note.lightsGroundOnly)]) ∧
    (x.note.skyMs < 2 ^ 48 → CarriesFields (stampRecord x) [(4, u32 x.note.skyMs ++ u16 (x.note.skyMs / 2 ^ 32))]) ∧
    CarriesFields (stampRecord x) [(10, u16 x.note.pedestal), (12, u32 x.clock.toNat)] ∧
    (stampRecord x).length = 16) ∧
  (∀ (r : Response) (b : BulkRead) (s : State), s.pLink.response = some ⟨r, some b⟩ → s.powered = true →
    let region := match b.stream with | .output => s.dram.output | .preview => s.dram.preview
    let bytes := (List.range b.count).map fun k => streamByte region (b.offset + k)
    exec .bulkReadComplete s = .next { s with
      engine := { s.engine with lastGranted := .link }
      pLink := { s.pLink with
        response := some ⟨{ r with payload := r.payload ++ (u16 b.count ++ bytes) }, none⟩ } })

/-- Request Preview is ACCEPTED in the states that have planes to show, and sets the pending mark, which wakes a dozing
part; a preview already pending or in progress makes it BUSY; in the other states it is refused (R133, R141). -/
def Obligations.RequestPreviewSetsItsMark : Prop :=
  ∀ (p : SelectPeriod) (s : State), p.link = .p → 2 ≤ byteCount p → s.power.state ≠ .standby →
    (s.session.state ∈ [.idle, .arming, .armed, .finishing, .lost] →
      exec (.requestPreview p) s = .next (answered p 0x1e#8 .refusedState [] [] s)) ∧
    (s.session.state ∈ [.referencing, .integrating, .paused, .draining, .finished] → s.power.state ≠ .hold →
      (s.engine.previewPending = true ∨ s.engine.job = .preview →
        exec (.requestPreview p) s = .next (answered p 0x1e#8 .busy [] [] s)) ∧
      (s.engine.previewPending = false → s.engine.job ≠ .preview →
        exec (.requestPreview p) s = .next (answered p 0x1e#8 .accepted [] [] (wake .pLink
          { s with engine := { s.engine with previewPending := true } }))))

/-! ## Power requests -/

/-- Set Power, row by row (R143): the unknown state, HOLD, CHANGING, ACTIVE, the stay-awake demand, the entry to
STANDBY, and the request that waits. Set Stay Awake on the S-link takes the demand, and a demand set is a wake in DOZE;
on the P-link it is refused (R141, R147). On the S-link Set Power is refused. In STANDBY a Set Power ACTIVE is answered
DONE and is a wake, a Set Power STANDBY is answered DONE and is none, and one that names neither state is a wake and is
refused (R143, R146); that the memory reads as cleared after a wake that turns the entry to STANDBY round, where R145
says that its contents are given up, is the model's choice (assumption 5). That the engine domain stays on when the
entry to STANDBY begins is the model's choice (assumption 42). -/
def Obligations.PowerRequestsFollowTheirTables : Prop :=
  (∀ (p : SelectPeriod) (s : State), p.link = .p → 3 ≤ byteCount p → s.power.state ≠ .standby →
    (2 ≤ fieldU8 p 2 → exec (.setPower p) s = .next (answered p 0x21#8 .refusedRange [2] [] s)) ∧
    (fieldU8 p 2 < 2 → s.power.state = .hold → exec (.setPower p) s = .next (answered p 0x21#8 .held [] [] s)) ∧
    (fieldU8 p 2 < 2 → s.power.state ≠ .hold → s.power.changing = true →
      exec (.setPower p) s = .next (answered p 0x21#8 .busy [] [] (raise .powerRefused
        { s with power := { s.power with lastRefusal := some .busyChanging } }))) ∧
    (fieldU8 p 2 = 0 → s.power.state ≠ .hold → s.power.changing = false →
      exec (.setPower p) s = .next (answered p 0x21#8 .done [] [] (wake .pLink
        { s with power := { s.power with waiting := false } }))) ∧
    (fieldU8 p 2 = 1 → s.power.state ≠ .hold → s.power.changing = false → s.power.stayAwake = true →
      exec (.setPower p) s = .next (answered p 0x21#8 .refusedState [] [] (raise .powerRefused
        { s with power := { s.power with waiting := false, lastRefusal := some .stayAwake } }))) ∧
    (fieldU8 p 2 = 1 → s.power.state = .active → s.power.changing = false → s.power.stayAwake = false →
      (s.session.state = .idle ∨ s.session.state = .lost) →
      exec (.setPower p) s = .next (answered p 0x21#8 .accepted [] [] { s with
        power := { s.power with state := .standby, changing := true, waiting := false }
        darks := DarkLibrary.emptied
        results := { s.results with output := .empty, preview := .empty } })) ∧
    (fieldU8 p 2 = 1 → s.power.state = .doze → s.power.changing = false → s.power.stayAwake = false →
      (s.session.state = .idle ∨ s.session.state = .lost) →
      exec (.setPower p) s = .next (answered p 0x21#8 .accepted [] []
        (wake .pLink { s with power := { s.power with waiting := true } }))) ∧
    (fieldU8 p 2 = 1 → s.power.state ≠ .hold → s.power.changing = false → s.power.stayAwake = false →
      s.session.state ≠ .idle → s.session.state ≠ .lost →
      exec (.setPower p) s = .next (answered p 0x21#8 .accepted [] []
        { s with power := { s.power with waiting := true } }))) ∧
  (∀ (p : SelectPeriod) (s : State), p.link = .p → 3 ≤ byteCount p → s.power.state = .standby →
    let woken : State := { s with
      power := { s.power with state := .active, changing := true, lastWake := some .pLink }
      dram := if s.power.changing = true then Dram.cleared else s.dram }
    (fieldU8 p 2 = 0 → exec (.setPower p) s = .next (answered p 0x21#8 .done [] [] woken)) ∧
    (fieldU8 p 2 = 1 → exec (.setPower p) s = .next (answered p 0x21#8 .done [] [] s)) ∧
    (2 ≤ fieldU8 p 2 → exec (.setPower p) s = .next (answered p 0x21#8 .refusedRange [2] [] woken))) ∧
  (∀ (p : SelectPeriod) (s : State), QuietTaking p s → 3 ≤ byteCount p →
    (p.link = .s → exec (.setPower p) s = .next (answered p 0x21#8 .refusedLink [] [] s)) ∧
    (p.link = .p → exec (.setStayAwake p) s = .next (answered p 0x22#8 .refusedLink [] [] s)) ∧
    (p.link = .s → fieldU8 p 2 = 0 → exec (.setStayAwake p) s = .next (answered p 0x22#8 .done [] []
      { s with power := { s.power with stayAwake := false } })) ∧
    (p.link = .s → fieldU8 p 2 = 1 → exec (.setStayAwake p) s = .next (answered p 0x22#8 .done [] []
      (wake .sLink { s with power := { s.power with stayAwake := true } }))) ∧
    (p.link = .s → 2 ≤ fieldU8 p 2 → exec (.setStayAwake p) s = .next (answered p 0x22#8 .refusedRange [2] [] s)))

/-- In STANDBY every request but Set Power STANDBY wakes the part at its taking, before it is judged, whatever its answer,
and the cause names its link; a Set Power STANDBY is answered DONE there and wakes nothing (R143, R146, R154). Any request
taken on the S-link gives up a waiting STANDBY request: the cause is WOKEN and POWER_REFUSED is pending, on the S-link
unless the request itself acknowledges it (R144). -/
def Obligations.TakingARequestWakesAndGivesUp : Prop :=
  (∀ (i : Instr) (l : Link) (code : Byte) (rest : List Byte) (s : State),
    i.WellFormed = true → encodeSelectPeriod i = some (l, code :: rest) → code ≠ collectCode →
    (code = 0x21#8 → isSetStandby ⟨l, rest⟩ = false) → s.power.state = .standby →
    ∃ t, exec i s = .next t ∧ t.power.state = .active ∧ t.power.changing = true ∧
      t.power.lastWake = some (match l with | .p => .pLink | .s => .sLink) ∧ (t.link l).response.isSome = true) ∧
  (∀ (p : SelectPeriod) (s : State), p.link = .p → 3 ≤ byteCount p → fieldU8 p 2 = 1 → s.power.state = .standby →
    exec (.setPower p) s = .next (answered p 0x21#8 .done [] [] s)) ∧
  (∀ (i : Instr) (code : Byte) (rest : List Byte) (s : State),
    i.WellFormed = true → encodeSelectPeriod i = some (.s, code :: rest) → code ≠ collectCode →
    s.power.waiting = true → s.power.state ≠ .standby →
    ∃ t, exec i s = .next t ∧ t.power.waiting = false ∧ t.power.lastRefusal = some .woken ∧
      t.pLink.pendingSet.getLsbD 13 = true ∧
      (code ≠ 0x25#8 → t.sLink.pendingSet.getLsbD 13 = true))

/-- A request that is refused for its state, its link or a field, that is stale, held or unknown changes nothing but the
pending response (R158), but for the two refusals of Set Power that its own rule gives effects (R143). Where they are
refused: on the S-link, every request that is the P-link's alone (R158), and in the session states whose column of
section 1.2 says so, the session requests, with Trigger Sub (R35) and the writes of IDLE and ARMED (R25, R49, R104). -/
def Obligations.RefusedRequestsChangeNothing : Prop :=
  (∀ (p : SelectPeriod) (s : State), p.link = .s → QuietTaking p s →
    let refused := fun (code : Byte) (i : Instr) => exec i s = .next (answered p code .refusedLink [] [] s)
    (2 ≤ byteCount p → refused 0x01#8 (.arm p) ∧ refused 0x05#8 (.finish p) ∧ refused 0x06#8 (.extend p) ∧
      refused 0x07#8 (.closeSession p) ∧ refused 0x1e#8 (.requestPreview p)) ∧
    (3 ≤ byteCount p → refused 0x18#8 (.clearDarkSlot p) ∧ refused 0x21#8 (.setPower p)) ∧
    (4 ≤ byteCount p → refused 0x0b#8 (.setPartSettings p)) ∧ (8 ≤ byteCount p → refused 0x0f#8 (.configureSensor p)) ∧
    (6 + 2 * fieldU16 p 4 ≤ byteCount p → refused 0x1a#8 (.writeTiles p)) ∧
    (10 ≤ byteCount p → refused 0x1d#8 (.readBlock p) ∧ refused 0x1f#8 (.readPreview p)) ∧
    (34 ≤ byteCount p → refused 0x08#8 (.writePlan p))) ∧
  (∀ (p : SelectPeriod) (s : State), QuietTaking p s →
    let refused := fun (code : Byte) (i : Instr) => exec i s = .next (answered p code .refusedState [] [] s)
    let st := s.session.state
    (2 ≤ byteCount p →
      (st ∉ [.armed, .arming] → s.power.state ≠ .hold → refused 0x02#8 (.start p)) ∧
      (st ∉ [.referencing, .integrating] → refused 0x03#8 (.pause p) ∧ refused 0x0e#8 (.triggerSub p)) ∧
      (st ≠ .paused → s.power.state ≠ .hold → refused 0x04#8 (.resume p)) ∧
      (p.link = .p → st ≠ .idle → s.power.state ≠ .hold → refused 0x01#8 (.arm p)) ∧
      (p.link = .p → st ∉ [.referencing, .integrating, .paused] → refused 0x05#8 (.finish p)) ∧
      (p.link = .p → st ≠ .finished → s.power.state ≠ .hold → refused 0x06#8 (.extend p)) ∧
      (p.link = .p → st = .idle → refused 0x07#8 (.closeSession p))) ∧
    (p.link = .p → st ≠ .idle →
      (4 ≤ byteCount p → refused 0x0b#8 (.setPartSettings p)) ∧ (8 ≤ byteCount p → refused 0x0f#8 (.configureSensor p)) ∧
      (st ≠ .armed → 6 + 2 * fieldU16 p 4 ≤ byteCount p → refused 0x1a#8 (.writeTiles p)))) ∧
  ∀ (i : Instr) (l : Link) (code : Byte) (rest : List Byte) (s t : State) (r : Response),
    encodeSelectPeriod i = some (l, code :: rest) → i.WellFormed = true → code ≠ collectCode → code ≠ 0x21#8 →
    QuietTaking ⟨l, rest⟩ s → exec i s = .next t → (t.link l).response = some ⟨r, none⟩ →
    r.outcome ∈ [.refusedState, .refusedLink, .refusedRange, .stale, .held, .unknown] →
    r.payload = [] ∧ t = answered ⟨l, rest⟩ code r.outcome r.fields [] s

/-- In HOLD the requests that need the memory or the engine are answered HELD and change nothing; Read Block, Request
Preview and Read Preview are so in the states in which they would otherwise be answered (R131, R133, R136, R149). Start
and Resume are so on the S-link too, where a waiting STANDBY request is given up as at any request taken there (R5, R7,
R144). -/
def Obligations.HoldAnswersHeld : Prop :=
  (∀ (p : SelectPeriod) (s : State), p.link = .p → s.power.state = .hold →
    (2 ≤ byteCount p →
      exec (.arm p) s = .next (answered p 0x01#8 .held [] [] s) ∧
      exec (.start p) s = .next (answered p 0x02#8 .held [] [] s) ∧
      exec (.resume p) s = .next (answered p 0x04#8 .held [] [] s) ∧
      exec (.extend p) s = .next (answered p 0x06#8 .held [] [] s) ∧
      (s.session.state = .paused ∨ s.session.state = .draining ∨ s.session.state = .finished →
        exec (.requestPreview p) s = .next (answered p 0x1e#8 .held [] [] s))) ∧
    (10 ≤ byteCount p →
      (s.session.state = .finished → exec (.readBlock p) s = .next (answered p 0x1d#8 .held [] [] s)) ∧
      (s.results.preview = .valid → exec (.readPreview p) s = .next (answered p 0x1f#8 .held [] [] s)))) ∧
  (∀ (p : SelectPeriod) (s : State), p.link = .s → s.power.state = .hold → 2 ≤ byteCount p →
    let u : State := if s.power.waiting = true then
        raise .powerRefused { s with power := { s.power with waiting := false, lastRefusal := some .woken } }
      else s
    exec (.start p) s = .next (answered p 0x02#8 .held [] [] u) ∧
    exec (.resume p) s = .next (answered p 0x04#8 .held [] [] u))

/-! ## Unknown requests and collections -/

/-- A request whose code names none is answered UNKNOWN under that code, and a collection sends the record, a marker or
idle bytes and clears the response exactly when a READY record was clocked whole (R154, R156, R167). -/
def Obligations.UnknownRequestsAndCollectionsAreServed : Prop :=
  (∀ (code : Byte) (p : SelectPeriod) (s : State), QuietTaking p s → isRequestCode code = false → code ≠ collectCode →
    exec (.unknownRequest code p) s = .next (answered p code .unknown [] [] s)) ∧
  (∀ (l : Link) (clocks : Nat) (s : State),
    ((s.link l).response = none →
      exec (.collection l clocks) s = .next (s.onLink l fun x => { x with
        sent := (0x5a#8 :: List.replicate clocks 0xff#8).take clocks })) ∧
    (∀ r b, (s.link l).response = some ⟨r, some b⟩ →
      exec (.collection l clocks) s = .next (s.onLink l fun x => { x with
        sent := (0xa5#8 :: List.replicate clocks 0xff#8).take clocks })) ∧
    (∀ r, (s.link l).response = some ⟨r, none⟩ → r.bytes.length ≤ clocks →
      exec (.collection l clocks) s = .next (s.onLink l fun x => { x with
        response := none, sent := r.bytes ++ List.replicate (clocks - r.bytes.length) 0xff#8 })) ∧
    (∀ r, (s.link l).response = some ⟨r, none⟩ → clocks < r.bytes.length →
      exec (.collection l clocks) s = .next (s.onLink l fun x => { x with sent := r.bytes.take clocks })))

/-! ## REMOTE and the shutter -/

/-- A change of REMOTE restarts the debounce interval of 20 ms (R38); outside HOLD a press, taken when the line has been
low so long, pauses a running session in TIMED, resumes a paused one, and in the other modes makes a start where one can
be made (StartsAreMadeWhereTheyCanBe says where). The same press in DOZE wakes the part, or is kept through the entry;
in STANDBY it wakes it with remote wake on and is no wake with it off; in any of them it gives up a waiting STANDBY
request (R141, R144, R146). That these uses of the Power Controller come before those of the session and the sequencer
is the model's choice (assumption 37). That the memory reads as cleared after a press that turns an entry to STANDBY
round, where R145 says only that its contents are given up, is the model's choice too (assumption 5). A release ends a
REMOTE_GATE light that has run 500 ms, is kept by one that has not, and at any other time changes the debounced state
alone (R8, R35 to R38). -/
def Obligations.RemoteIsDebouncedAndActsByMode : Prop :=
  (∀ (low : Bool) (s : State), s.lines.remoteLow ≠ low → s.power.state ≠ .hold →
    exec (.remoteLineChange low) s = .next { s with
      lines := { s.lines with remoteLow := low }
      seq := { s.seq with debounceTimer := if low = s.seq.remotePressed then none else some (s.seq.clock + 20#32) } }) ∧
  (∀ s : State, s.power.state = .active → s.power.waiting = false → s.lines.remoteLow = true →
    s.seq.remotePressed = false → s.seq.debounceTimer = some s.seq.clock →
    let d : State := { s with seq := { s.seq with remotePressed := true, debounceTimer := none } }
    (s.plan.triggerMode = .timed → s.running = true → exec .remotePress s = .next (pauseSession .remote d)) ∧
    (s.plan.triggerMode = .timed → s.session.state = .paused → exec .remotePress s = .next (resumeSession d)) ∧
    (s.plan.triggerMode = .timed → s.running = false → s.session.state ≠ .paused → exec .remotePress s = .next d) ∧
    (s.plan.triggerMode ≠ .timed → s.canStart = true → exec .remotePress s = .next (makeStart d)) ∧
    (s.plan.triggerMode ≠ .timed → s.canStart = false → exec .remotePress s = .next d)) ∧
  (∀ s : State, s.power.state ≠ .hold → s.lines.remoteLow = true → s.seq.remotePressed = false →
    s.seq.debounceTimer = some s.seq.clock →
    let d : State := { s with seq := { s.seq with remotePressed := true, debounceTimer := none } }
    let u : State := giveUpWaiting .woken (wake .remote d)
    let w : State := if s.session.remoteWake = true then standbyWake .remote u else u
    (s.plan.triggerMode = .timed → s.running = true → exec .remotePress s = .next (pauseSession .remote w)) ∧
    (s.plan.triggerMode = .timed → s.session.state = .paused → exec .remotePress s = .next (resumeSession w)) ∧
    (s.plan.triggerMode = .timed → s.running = false → s.session.state ≠ .paused → exec .remotePress s = .next w) ∧
    (s.plan.triggerMode ≠ .timed → s.canStart = true → exec .remotePress s = .next (makeStart w)) ∧
    (s.plan.triggerMode ≠ .timed → s.canStart = false → exec .remotePress s = .next w) ∧
    (s.power.waiting = false →
      (s.power.state = .doze → s.power.changing = false →
        w = { d with power := { s.power with state := .active, changing := true, lastWake := some .remote } }) ∧
      (s.power.state = .doze → s.power.changing = true →
        w = { d with power := { s.power with wakePending := true, lastWake := some .remote } }) ∧
      (s.power.state = .standby → s.session.remoteWake = true → w = { d with
        power := { s.power with state := .active, changing := true, lastWake := some .remote }
        dram := if s.power.changing = true then Dram.cleared else s.dram }) ∧
      (s.power.state = .standby → s.session.remoteWake = false → w = d) ∧
      (s.power.state = .active → w = d)) ∧
    (s.power.waiting = true → w.power.waiting = false ∧ w.power.lastRefusal = some .woken ∧
      w.pLink.pendingSet.getLsbD 13 = true ∧ w.sLink.pendingSet.getLsbD 13 = true ∧
      (s.power.state = .active →
        w = raise .powerRefused { d with power := { s.power with waiting := false, lastRefusal := some .woken } }))) ∧
  (∀ s : State, s.power.state ≠ .hold → s.lines.remoteLow = false → s.seq.remotePressed = true →
    s.seq.debounceTimer = some s.seq.clock →
    let d : State := { s with seq := { s.seq with remotePressed := false, debounceTimer := none } }
    (s.seq.phase ≠ .exposing → exec .remoteRelease s = .next d) ∧
    (∀ c, s.seq.phase = .exposing → s.seq.current = some c → c.kind = .light →
      s.ring.desc[c.index].snapshot.triggerMode = .remoteGate →
      (500 ≤ (s.seq.clock - c.start).toNat → exec .remoteRelease s = .next (endExposure c d)) ∧
      ((s.seq.clock - c.start).toNat < 500 → exec .remoteRelease s = .next
        { d with seq := { d.seq with current := some { c with released := true } } })) ∧
    (∀ c, s.seq.phase = .exposing → s.seq.current = some c →
      (c.kind = .dark ∨ s.ring.desc[c.index].snapshot.triggerMode ≠ .remoteGate) → exec .remoteRelease s = .next d))

/-- The shutter handshake (R40, R41): a cover that confirms its close opens the waiting dark, one that confirms its
opening lets a running session wait for its next start; a confirmation not awaited changes the line's level alone. The
shutter timer's two ends: at a close timeout the dark is given up, SHUTTER_FAULT is raised and a light opens; at an open
timeout SHUTTER_FAULT is raised, the sequencer enters IDLE, and a running session pauses (SHUTTER), where any other keeps
its state (R41, R44). The wake alarm wakes the part (R42), and a wake
moves a settled DOZE toward ACTIVE, is kept through an entry to DOZE, and has no effect elsewhere (R141). -/
def Obligations.ShutterAndAlarmMoveTheSequencer : Prop :=
  (∀ s : State,
    (s.lines.shutterClosed = false →
      (s.seq.phase = .waitShutter → exec .shutterClosedAssert s =
        .next (openSub .dark { s with lines := { s.lines with shutterClosed := true } })) ∧
      (s.seq.phase ≠ .waitShutter → exec .shutterClosedAssert s =
        .next { s with lines := { s.lines with shutterClosed := true } })) ∧
    (s.lines.shutterClosed = true →
      (s.seq.phase = .waitOpen → s.running = true → exec .shutterClosedDeassert s = .next { s with
        lines := { s.lines with shutterClosed := false }
        seq := { s.seq with phase := .waitStart, shutterTimer := none } }) ∧
      (s.seq.phase = .waitOpen → s.running = false → exec .shutterClosedDeassert s = .next { s with
        lines := { s.lines with shutterClosed := false }
        seq := { s.seq with
          phase := .idle, shutterTimer := none, cadenceTimer := none, keptExpiry := false, wakeAlarm := none } }) ∧
      (s.seq.phase ≠ .waitOpen → exec .shutterClosedDeassert s = .next { s with
        lines := { s.lines with shutterClosed := false } }))) ∧
  (∀ s : State,
    (s.seq.phase = .waitShutter → s.seq.shutterTimer = some s.seq.clock →
      exec .closeTimeout s = .next (openSub .light (raise .shutterFault { s with
        lines := { s.lines with shutterClose := false }
        seq := { s.seq with
          lightsSinceDark := 0, shutterTimer := none, lastFault := some (.closeTimeout, s.seq.clock) } }))) ∧
    (s.seq.phase = .waitOpen → s.seq.shutterTimer = some s.seq.clock → s.running = true →
      ∃ t, exec .openTimeout s = .next t ∧ t.session.state = .paused ∧ t.session.pauseCause = some .shutter ∧
        t.seq.phase = .idle ∧ t.seq.shutterTimer = none ∧ t.seq.lastFault = some (.openTimeout, s.seq.clock) ∧
        t.pLink.pendingSet.getLsbD 7 = true ∧ t.sLink.pendingSet.getLsbD 7 = true ∧
        t.ring = s.ring ∧ t.lines = s.lines ∧ t.engine = s.engine ∧ t.dram = s.dram ∧ t.power = s.power) ∧
    (s.seq.phase = .waitOpen → s.seq.shutterTimer = some s.seq.clock → s.running = false →
      exec .openTimeout s = .next (raise .shutterFault { s with
        seq := { s.seq with
          phase := .idle, shutterTimer := none, cadenceTimer := none, keptExpiry := false, wakeAlarm := none
          lastFault := some (.openTimeout, s.seq.clock) } })) ∧
    (s.seq.wakeAlarm = some s.seq.clock →
      exec .wakeAlarmFires s = .next (wake .alarm { s with seq := { s.seq with wakeAlarm := none } }))) ∧
  (∀ (cause : WakeCause) (s : State),
    (s.power.state = .doze → s.power.changing = false →
      wake cause s = { s with power := { s.power with state := .active, changing := true, lastWake := some cause } }) ∧
    (s.power.state = .doze → s.power.changing = true →
      wake cause s = { s with power := { s.power with wakePending := true, lastWake := some cause } }) ∧
    (s.power.state ≠ .doze → wake cause s = s))

/-! ## Starts, openings and exposures -/

/-- A start is made by the Cadence Timer's expiry in TIMED, by a kept expiry, or by Trigger Sub in SINGLE, where one can
be made; an expiry that finds none is kept, and Trigger Sub is then BUSY (R31, R34, R35). One can be made exactly in
WAIT_START of a running session with no descriptor READING (R31, R34 to R37). -/
def Obligations.StartsAreMadeWhereTheyCanBe : Prop :=
  ∀ s : State,
    (s.canStart = true ↔ s.seq.phase = .waitStart ∧ s.session.state ∈ [.referencing, .integrating] ∧
      ∀ i : Fin 6, s.ring.desc[i].state ≠ .reading) ∧
    (s.seq.cadenceTimer = some s.seq.clock →
      (s.plan.triggerMode = .timed → s.canStart = true → exec .cadenceTimerExpiry s = .next (makeStart s)) ∧
      (s.canStart = false → exec .cadenceTimerExpiry s = .next
        { s with seq := { s.seq with cadenceTimer := none, keptExpiry := true } })) ∧
    (s.plan.triggerMode = .timed → s.seq.keptExpiry = true → s.canStart = true →
      exec .sequencerStart s = .next (makeStart s)) ∧
    ∀ p : SelectPeriod, QuietTaking p s → 2 ≤ byteCount p → s.running = true →
      (s.plan.triggerMode ≠ .single → exec (.triggerSub p) s = .next (answered p 0x0e#8 .refusedState [] [] s)) ∧
      (s.plan.triggerMode = .single → s.canStart = false →
        exec (.triggerSub p) s = .next (answered p 0x0e#8 .busy [] [] s)) ∧
      (s.plan.triggerMode = .single → s.canStart = true →
        exec (.triggerSub p) s = .next (respond 0x0e#8 p (plain .accepted (makeStart (taken p s)))))

/-- A start, step by step (R31, R39, R40): with no plan pending it finds the sub limit met, or no descriptor, when it is
skipped, or it begins a dark when the cadence calls for one, or it opens a light. A pending plan becomes active first,
with PLAN_SWITCHED (R23): where the new plan's limits are met already and its auto finish is set, the session drains and
no sub opens (R15, R16); else the start goes on by the new plan. -/
def Obligations.AStartTakesItsSteps : Prop :=
  (∀ s : State, s.running = true → s.session.pendingPlan = none →
    let c : State := { s with seq := { s.seq with cadenceTimer := none, keptExpiry := false } }
    let next : Option Clock := if s.plan.triggerMode = .timed then
      some (s.seq.clock + BitVec.ofNat 32 (s.plan.subLength + s.plan.gap)) else none
    let limit := s.plan.subLimit ≤ s.session.totals.subsOpened
    let dark := s.plan.darkCadence ≠ 0 ∧ s.plan.darkCadence ≤ s.seq.lightsSinceDark
    (limit → s.plan.autoFinish = true → makeStart s = enterDraining .alarm c) ∧
    (limit → s.plan.autoFinish = false →
      makeStart s = { c with seq := { c.seq with cadenceTimer := next } }) ∧
    (¬limit → (∀ i : Fin 6, s.ring.desc[i].inFlight = true) →
      makeStart s = raise .subSkipped { c with
        session := { s.session with totals := { s.session.totals with skipped := s.session.totals.skipped + 1 } }
        seq := { c.seq with cadenceTimer := next } }) ∧
    (¬limit → (∃ i : Fin 6, s.ring.desc[i].inFlight = false) → ¬dark → makeStart s = openSub .light c) ∧
    (¬limit → (∃ i : Fin 6, s.ring.desc[i].inFlight = false) → dark → s.lines.shutterClosed = false →
      makeStart s = { c with
        lines := { s.lines with shutterClose := true }
        seq := { c.seq with phase := .waitShutter, shutterTimer := some (s.seq.clock + 500#32) } }) ∧
    (¬limit → (∃ i : Fin 6, s.ring.desc[i].inFlight = false) → dark → s.lines.shutterClosed = true →
      makeStart s = openSub .dark { c with lines := { s.lines with shutterClose := true } })) ∧
  (∀ (s : State) (k : Fin 4), s.running = true → s.session.pendingPlan = some k →
    let c : State := raise .planSwitched { s with
      seq := { s.seq with cadenceTimer := none, keptExpiry := false }
      session := { s.session with activePlan := k, pendingPlan := none } }
    let plan := s.session.plans[k]
    let met := plan.subLimit ≤ s.session.totals.subsOpened ∨
      (plan.durationLimit ≠ 0 ∧ 60000 * plan.durationLimit ≤ s.session.runTime)
    c.plan = plan ∧
    (plan.autoFinish = true → met → makeStart s = enterDraining .alarm c) ∧
    ((plan.autoFinish = false ∨ ¬met) → makeStart s = makeStart c))

/-- The opening of a sub writes its descriptor, numbers it, takes the snapshot, asserts TRIGGER and raises SUB_OPENED;
every other descriptor, the guidance, the library, the engine, the memory and the power state are left alone (R32, R42,
R59, R61). That the sequencer keeps whether REMOTE was RELEASED already at the opening is the model's reading
(assumption 19). The opening that a start, an asserted SHUTTER_CLOSED or a close timeout makes is that of the descriptor
the ring chooses, after which the sub limit is judged: a running session with auto finish drains at the sub that meets
it (R16, R32); with no descriptor to choose nothing opens. -/
def Obligations.OpeningRecordsTheSub : Prop :=
  (∀ (i : Fin 6) (kind : SubKind) (s : State),
    let t := openIn i kind s
    let gate := kind = .light ∧ s.plan.triggerMode = .remoteGate
    t.ring = { s.ring with
      desc := s.ring.desc.set i (Descriptor.opened (s.session.totals.subsOpened + 1) kind s.seq.clock s.plan)
      lastOpened := s.session.totals.subsOpened + 1 } ∧
    t.session = { s.session with totals := { s.session.totals with subsOpened := s.session.totals.subsOpened + 1 } } ∧
    t.lines = { s.lines with trigger := true } ∧ t.seq.phase = .exposing ∧ t.seq.shutterTimer = none ∧
    t.seq.current = some ⟨i, s.session.totals.subsOpened + 1, kind, s.seq.clock,
      s.seq.clock + BitVec.ofNat 32 (if gate then 900000 else s.plan.subLength), !s.seq.remotePressed⟩ ∧
    t.seq.lightsSinceDark = (if kind = .light then min 255 (s.seq.lightsSinceDark + 1) else 0) ∧
    t.seq.wakeAlarm = some (s.seq.clock + BitVec.ofNat 32 (if gate then 460 else s.plan.subLength - 40)) ∧
    t.seq.cadenceTimer = s.seq.cadenceTimer ∧ t.seq.keptExpiry = s.seq.keptExpiry ∧
    t.guidance = s.guidance ∧ t.darks = s.darks ∧ t.engine = s.engine ∧ t.dram = s.dram ∧ t.port = s.port ∧
    t.results = s.results ∧ t.tileMap = s.tileMap ∧ (500 ≤ s.plan.subLength → t.power = s.power) ∧
    t.pLink.pendingSet.getLsbD 4 = true ∧ t.sLink.pendingSet.getLsbD 4 = true) ∧
  (∀ (kind : SubKind) (s : State),
    (∀ i, s.ring.openingChoice = some i →
      let met := s.running = true ∧ s.plan.autoFinish = true ∧ s.plan.subLimit ≤ s.session.totals.subsOpened + 1
      (met → openSub kind s = enterDraining .alarm (openIn i kind s)) ∧ (¬met → openSub kind s = openIn i kind s)) ∧
    (s.ring.openingChoice = none → openSub kind s = s))

/-- The ring's choices (R61, R63): an opening takes, of the FREE and RETIRED descriptors, the lowest sub number, a FREE
one counting as 0, and the lowest index among equals, and finds none exactly when all are in flight; the engine takes
the WAITING descriptor with the lowest sub number. -/
def Obligations.TheRingChoosesTheLowestSubNumber : Prop :=
  ∀ r : Ring,
    (∀ i : Fin 6, r.openingChoice = some i ↔
      (r.desc[i].inFlight = false ∧ ∀ j : Fin 6, r.desc[j].inFlight = false →
        let key := fun k : Fin 6 => if r.desc[k].state = .free then 0 else r.desc[k].sub
        key i < key j ∨ (key i = key j ∧ i ≤ j))) ∧
    (r.openingChoice = none ↔ ∀ i : Fin 6, r.desc[i].inFlight = true) ∧
    (∀ i : Fin 6, r.nextWaiting = some i ↔
      (r.desc[i].state = .waiting ∧ ∀ j : Fin 6, r.desc[j].state = .waiting →
        r.desc[i].sub < r.desc[j].sub ∨ (r.desc[i].sub = r.desc[j].sub ∧ i ≤ j)))

/-- The end of an exposure in a running session: TRIGGER deasserts, the descriptor is READING, the readout timer runs for
2,000 ms, and the sequencer waits for the next start, or after a dark for its cover to open; in TIMED the Cadence Timer
runs for the snapshot's gap (R33, R41, R57). Everything else is left alone. In a draining session it enters IDLE instead
(R44). A REMOTE_GATE light ends when it has run 500 ms and REMOTE was RELEASED meanwhile, or when it has run 900,000 ms,
its exposure being the time it ran, and goes on until then (R37). -/
def Obligations.AnExposureEndsIntoReading : Prop :=
  (∀ (s : State) (c : CurrentExposure), s.seq.phase = .exposing → s.seq.current = some c → s.running = true →
    (c.kind = .dark ∨ s.ring.desc[c.index].snapshot.triggerMode ≠ .remoteGate) →
    s.ring.desc[c.index].exposure ≤ (s.seq.clock - c.start).toNat → s.plan.triggerMode = .timed →
    let d := s.ring.desc[c.index]
    let t : State := { s with
      lines := { s.lines with trigger := false }
      ring := { s.ring with desc := s.ring.desc.set c.index { d with state := .reading } }
      port := { s.port with readoutTimer := some (s.seq.clock + 2000#32) }
      seq := { s.seq with
        current := none, wakeAlarm := none, keptExpiry := false
        cadenceTimer := some (s.seq.clock + BitVec.ofNat 32 d.snapshot.gap) } }
    (c.kind = .light → exec .exposureEnd s = .next { t with seq := { t.seq with phase := .waitStart } }) ∧
    (c.kind = .dark → s.lines.shutterClosed = true → exec .exposureEnd s = .next { t with
      lines := { t.lines with shutterClose := false }
      seq := { t.seq with phase := .waitOpen, shutterTimer := some (s.seq.clock + 500#32) } })) ∧
  (∀ (s : State) (c : CurrentExposure), s.seq.phase = .exposing → s.seq.current = some c → c.kind = .light →
    let d := s.ring.desc[c.index]
    let ran := (s.seq.clock - c.start).toNat
    let gate := d.snapshot.triggerMode = .remoteGate
    let ended := if gate then (500 ≤ ran ∧ c.released = true) ∨ 900000 ≤ ran else d.exposure ≤ ran
    let t : State := { s with
      lines := { s.lines with trigger := false }
      ring := { s.ring with desc := s.ring.desc.set c.index { d with
        state := .reading, exposure := if gate then ran else d.exposure } }
      port := { s.port with readoutTimer := some (s.seq.clock + 2000#32) } }
    (ended → s.running = true → s.plan.triggerMode ≠ .timed → exec .exposureEnd s = .next { t with
      seq := { s.seq with phase := .waitStart, current := none, wakeAlarm := none } }) ∧
    (ended → s.running = false → exec .exposureEnd s = .next { t with
      seq := { s.seq with
        phase := .idle, current := none, wakeAlarm := none, cadenceTimer := none, keptExpiry := false } }) ∧
    (¬ended → exec .exposureEnd s = .next s))

/-! ## Sensor frames -/

/-- A frame start is accepted when a descriptor is READING and the part is settled in ACTIVE, and discarded and counted
otherwise; one that comes while a frame is received truncates that frame, whose descriptor is retired REJECTED
(GEOMETRY), with the pause or the end of the drain that a retirement brings, and is itself discarded (R54, R57). -/
def Obligations.FrameStartsAreJudged : Prop :=
  ∀ s : State,
    let fresh : SensorPort := { s.port with sync := .synced, lineCount := 0, pixelCount := 0, frameFailed := false }
    let discards := min 65535 (s.port.discarded + 1)
    ((∀ n, s.port.reception ≠ .receiving n) →
      (∀ i, s.reading = some i → s.powered = true → exec .frameStart s = .next
        { s with port := { fresh with reception := .receiving s.ring.desc[i].sub } }) ∧
      ((s.reading = none ∨ s.powered = false) → exec .frameStart s = .next
        { s with port := { fresh with reception := .discarding, discarded := discards } })) ∧
    (∀ n i, s.port.reception = .receiving n → s.reading = some i →
      (∀ j : Fin 6, s.ring.desc[j].state = .reading → j = i) →
      (s.seq.phase = .exposing → ∀ c, s.seq.current = some c → c.index ≠ i) →
      exec .frameStart s = .next { retire i (.rejected .geometry) false { s with port := { fresh with
          lastResult := some .failedTruncated, readoutTimer := none } } with
        port := { fresh with
          lastResult := some .failedTruncated, readoutTimer := none, reception := .discarding, discarded := discards } } ∧
      ∃ t, exec .frameStart s = .next t ∧ t.port.reception = .discarding ∧ t.port.lastResult = some .failedTruncated ∧
        t.port.readoutTimer = none ∧ t.port.discarded = discards ∧
        t.ring.desc[i].state = .retired ∧ t.ring.desc[i].outcome = some (.rejected .geometry) ∧
        t.session.totals.rejectedGeometry = s.session.totals.rejectedGeometry + 1 ∧ t.dram = s.dram)

/-- An image line of an accepted frame is counted and written to its row of the receiving staging buffer, pixel by
pixel, and to no other place, in a part whose memory is ACTIVE (R108); a line of a wrong length fails the frame (R53,
R55). Pixel k of a line comes from lane k modulo the number of lanes, as its pixel number k / lanes (R53). How lanes of
unequal lengths, or more lanes than are configured, make a line is the model's choice (assumption 10). -/
def Obligations.AnImageLineWritesItsRow : Prop :=
  (∀ (lanes : List (List Pixel)) (s : State) (n : Nat) (i : Fin 6),
    s.port.sync = .synced → s.port.reception = .receiving n → s.reading = some i → s.memoryWf = true →
    s.port.width ≤ stagingColumns → s.power.memory = .active →
    let row := assembleLine lanes s.port.lanes
    ∃ t, exec (.imageLine lanes) s = .next t ∧
      t.port = { s.port with
        lineCount := min 65535 (s.port.lineCount + 1), pixelCount := min 65535 row.length
        frameFailed := s.port.frameFailed || row.length != s.port.width } ∧
      t = { s with port := t.port, dram := { s.dram with staging := t.dram.staging } } ∧
      (∀ j : Fin 6, j ≠ i → t.dram.staging[j] = s.dram.staging[j]) ∧
      (∀ x y : Nat, x < stagingColumns →
        regionRead 0 t.dram.staging[i] (stagingIndex x y) =
          if y = s.port.lineCount ∧ y < s.port.height ∧ x < s.port.width ∧ x < row.length then
            ((row[x]?).getD 0).toNat
          else regionRead 0 s.dram.staging[i] (stagingIndex x y))) ∧
  (∀ (lanes : List (List Pixel)) (m : Nat), lanes ≠ [] → (∀ lane ∈ lanes, lane.length = m) →
    let row := assembleLine lanes lanes.length
    row.length = lanes.length * m ∧
    ∀ k, k < lanes.length * m → row[k]? = (lanes[k % lanes.length]?).bind fun lane => lane[k / lanes.length]?)

/-- A trailer ends its frame: a frame of the right shape makes its descriptor WAITING with the temperature and clears
the consecutive-GEOMETRY counter; a frame of the wrong shape, and a readout that runs out of time, retire it REJECTED
(GEOMETRY); what is left of a frame that was being received then is discarded, and a frame that was being discarded goes
on so (R11, R56, R57). The lines of a discarded frame are counted and not written, and its trailer ends it unchecked,
with no descriptor, no counter and no last trailer changed (R54; that these lines set no frame failed flag and this
trailer is not recorded is assumption 10); while the lane sync awaits a frame start no unit changes anything (R53). -/
def Obligations.TrailersAndTimeoutsEndAFrame : Prop :=
  (∀ (s : State) (fc : BitVec 16) (temp : BitVec 12) (lanes : List (List Pixel)),
    (s.port.sync = .synced → s.port.reception = .discarding →
      exec (.trailerLine fc temp) s = .next { s with port := { s.port with reception := .idle } } ∧
      exec (.imageLine lanes) s = .next { s with port := { s.port with
        lineCount := min 65535 (s.port.lineCount + 1)
        pixelCount := min 65535 (assembleLine lanes s.port.lanes).length } }) ∧
    (s.port.sync = .awaitingFrameStart →
      exec (.trailerLine fc temp) s = .next s ∧ exec (.imageLine lanes) s = .next s)) ∧
  ∀ (s : State) (i : Fin 6), s.reading = some i →
    (∀ (fc : BitVec 16) (temp : BitVec 12) (n : Nat), s.port.sync = .synced → s.port.reception = .receiving n →
      let t : Trailer := ⟨fc.toNat, temp.toInt⟩
      (s.port.lineCount = s.port.height → s.port.frameFailed = false →
        exec (.trailerLine fc temp) s = .next { s with
          port := { s.port with
            lastTrailer := some t, reception := .idle, lastResult := some .passed, readoutTimer := none }
          session := { s.session with geometryCount := 0 }
          ring := { s.ring with desc := s.ring.desc.set i { s.ring.desc[i] with
            state := .waiting, temperature := some temp.toInt } } }) ∧
      ((s.port.lineCount ≠ s.port.height ∨ s.port.frameFailed = true) → exec (.trailerLine fc temp) s =
        .next (retire i (.rejected .geometry) false { s with
          port := { s.port with
            lastTrailer := some t, reception := .idle, lastResult := some .failedShape, readoutTimer := none }
          ring := { s.ring with desc := s.ring.desc.set i { s.ring.desc[i] with
            temperature := some temp.toInt } } }))) ∧
    (s.port.readoutTimer = some s.seq.clock → (∀ n, s.port.reception ≠ .receiving n) → exec .readoutTimeout s =
      .next (retire i (.rejected .geometry) false { s with
        port := { s.port with lastResult := some .failedTimeout, readoutTimer := none } })) ∧
    (∀ n, s.port.readoutTimer = some s.seq.clock → s.port.reception = .receiving n → exec .readoutTimeout s =
      .next (retire i (.rejected .geometry) false { s with
        port := { s.port with lastResult := some .failedTimeout, readoutTimer := none, reception := .discarding } }))

/-- A retirement writes the outcome, the last retired number and SUB_RETIRED, and keeps the account of the subs: each
retirement but a PARTIAL one moves one sub from the descriptors in flight to the totals (R26, R64, R181). Each outcome
raises the totals of its rows of R26, by one or by the exposure length; a failed referencing attempt, a moved light and
a failed frame raise their counters, a light with a resolved pose and another outcome sets the MOVED counter to zero,
and every other retirement leaves the counters as they are (R9 to R11). Outside DRAINING it is followed by the pause
that its counters call for: STARLESS at the fourth failed referencing attempt of a REFERENCING session (R9), MOVED at
the third moved light in a row of a running one (R10), SENSOR at three or more failed frames, with that counter set to
zero (R11); and by nothing else. The pause makes the session PAUSED with its cause (R2). -/
def Obligations.RetirementsKeepTheAccount : Prop :=
  (∀ (i : Fin 6) (o : SubOutcome) (resolved : Bool) (s : State), s.ring.desc[i].inFlight = true →
    let t := retireRecord i o resolved s
    t.ring = { s.ring with
      desc := s.ring.desc.set i { s.ring.desc[i] with state := .retired, outcome := some o }
      lastRetired := s.ring.desc[i].sub } ∧
    inFlightCount t.ring + 1 = inFlightCount s.ring ∧
    (o ≠ .partialMerge → retiredTotal t.session.totals = retiredTotal s.session.totals + 1) ∧
    (o = .partialMerge → t.session.totals = s.session.totals) ∧
    t.session.totals.subsOpened = s.session.totals.subsOpened ∧
    (let n := s.session.totals
     let ms := s.ring.desc[i].exposure
     t.session = { s.session with
       totals := match o with
         | .merged => { n with
             lightsMerged := n.lightsMerged + 1, skyMs := n.skyMs + ms, groundMs := n.groundMs + ms }
         | .groundOnly _ => { n with lightsGroundOnly := n.lightsGroundOnly + 1, groundMs := n.groundMs + ms }
         | .rejected .shake => { n with rejectedShake := n.rejectedShake + 1 }
         | .rejected .moved => { n with rejectedMoved := n.rejectedMoved + 1 }
         | .rejected .geometry => { n with rejectedGeometry := n.rejectedGeometry + 1 }
         | .rejected .paused => { n with rejectedPaused := n.rejectedPaused + 1 }
         | .rejected .abandoned => { n with rejectedAbandoned := n.rejectedAbandoned + 1 }
         | .partialMerge => n
         | .darkMerged => { n with darksMerged := n.darksMerged + 1 }
         | .darkDiscarded _ => { n with darksDiscarded := n.darksDiscarded + 1 }
       attempts := if o = .groundOnly .referenceFailed then min 255 (s.session.attempts + 1) else s.session.attempts
       movedCount := if o = .rejected .moved then min 255 (s.session.movedCount + 1)
         else if resolved = true then 0 else s.session.movedCount
       geometryCount := if o = .rejected .geometry then min 255 (s.session.geometryCount + 1)
         else s.session.geometryCount }) ∧
    t.pLink.pendingSet.getLsbD 5 = true ∧ t.sLink.pendingSet.getLsbD 5 = true ∧
    t.seq = s.seq ∧ t.port = s.port ∧ t.guidance = s.guidance ∧ t.darks = s.darks ∧ t.engine = s.engine ∧
    t.lines = s.lines ∧ t.dram = s.dram ∧ t.power = s.power) ∧
  (∀ (i : Fin 6) (o : SubOutcome) (resolved : Bool) (s : State), s.session.state ≠ .draining →
    let t := retireRecord i o resolved s
    let starless := o = .groundOnly .referenceFailed ∧ s.session.state = .referencing ∧ s.session.attempts = 3
    let moved := o = .rejected .moved ∧ s.running = true ∧ s.session.movedCount = 2
    let sensor := o = .rejected .geometry ∧ s.running = true ∧ 2 ≤ s.session.geometryCount
    (starless → retire i o resolved s = pauseSession .starless t) ∧
    (moved → retire i o resolved s = pauseSession .moved t) ∧
    (sensor → retire i o resolved s =
      pauseSession .sensor { t with session := { t.session with geometryCount := 0 } }) ∧
    (¬starless → ¬moved → ¬sensor → retire i o resolved s = t)) ∧
  (∀ (cause : PauseCause) (s : State),
    let t := pauseSession cause s
    t.session.state = .paused ∧ t.session.pauseCause = some cause ∧ t.seq.current = (if s.seq.phase = .exposing then none
      else s.seq.current) ∧ t.pLink.pendingSet.getLsbD 0 = true ∧ t.sLink.pendingSet.getLsbD 0 = true ∧
    t.engine = s.engine ∧ t.guidance = s.guidance ∧ t.darks = s.darks ∧ t.dram = s.dram ∧ t.port = s.port ∧
    t.power = s.power)

/-- The session's own ends: the duration limit reached in a running session with auto finish drains it, and a drain with
nothing in flight enters FINISHING and posts the finish (R13, R15). The retirement of the last descriptor in flight of a
draining session does so at once, and that of another leaves it DRAINING (R13). -/
def Obligations.LimitsDrainAndDrainsFinish : Prop :=
  (∀ s : State,
    (s.running = true → s.plan.autoFinish = true → s.plan.durationLimit ≠ 0 →
      60000 * s.plan.durationLimit ≤ s.session.runTime → s.seq.phase = .waitStart →
      (∃ i : Fin 6, s.ring.desc[i].inFlight = true) →
      exec .durationLimitReached s = .next (raise .sessionState { s with
        session := { s.session with state := .draining, pauseCause := none }
        seq := { s.seq with phase := .idle, cadenceTimer := none, keptExpiry := false, wakeAlarm := none } })) ∧
    (s.session.state = .draining → (∀ i : Fin 6, s.ring.desc[i].inFlight = false) →
      exec .drainComplete s = .next (wake .alarm (raise .sessionState { s with
        session := { s.session with state := .finishing, pauseCause := none }
        engine := { s.engine with finishPending := true } })))) ∧
  (∀ (i : Fin 6) (o : SubOutcome) (resolved : Bool) (s : State), s.session.state = .draining →
    let t := retireRecord i o resolved s
    ((∀ j : Fin 6, j ≠ i → s.ring.desc[j].inFlight = false) →
      retire i o resolved s = wake .alarm (raise .sessionState { t with
        session := { t.session with state := .finishing, pauseCause := none }
        engine := { s.engine with finishPending := true } })) ∧
    ((∃ j : Fin 6, j ≠ i ∧ s.ring.desc[j].inFlight = true) → retire i o resolved s = t))

/-! ## The engine -/

/-- The free, powered engine takes the first job of its order: a clear or a finish, then a preview that no Read Preview
holds back, then the WAITING descriptor with the lowest sub number, also past a preview held back (R110, R112, R125,
R128, R134). A light goes into MEASURING with the calibration that R100 chooses for its band from the READY slots, or
with none where its reported quality is SHAKEN or MOVED (R75). A dark goes into MERGING with its slot: the one of its
band, an EMPTY one, or the READY slot first in the use order (R93); with 64 darks in its band's slot, or with no slot to
take, it is discarded at once (R94), and the engine is free, with no tile done (assumption 40). With nothing to take
nothing changes. That the calibration is chosen, and becomes the calibration in use, at the taking and not at the
measurement's calibration step is the model's reading of R97 (assumption 27), and that a descriptor WAITING with no
temperature, which no run reaches, falls into the band of temperature 0 is its choice (assumption 28). -/
def Obligations.TheEngineTakesJobsInOrder : Prop :=
  (∀ s : State, s.powered = true → s.engine.job = .none → s.engine.stop = .none →
    let heldBack := ∃ r b, s.pLink.response = some ⟨r, some b⟩ ∧ b.stream = .preview
    (s.engine.clearPending = true → exec .engineTakesJob s = .next { s with
      engine := { s.engine with job := .planeClear, work := .none, tilesDone := 0, clearPending := false }
      results := { s.results with output := .empty, preview := .empty } }) ∧
    (s.engine.clearPending = false → s.engine.finishPending = true → exec .engineTakesJob s = .next { s with
      engine := { s.engine with job := .finish, work := .none, tilesDone := 0, finishPending := false }
      results := { s.results with output := .empty, pedestal := s.plan.outputPedestal } }) ∧
    (s.engine.clearPending = false → s.engine.finishPending = false → s.engine.previewPending = true →
      (∀ r b, s.pLink.response = some ⟨r, some b⟩ → b.stream ≠ .preview) → exec .engineTakesJob s = .next { s with
        engine := { s.engine with
          job := .preview, tilesDone := 0, previewPending := false
          work := .preview ⟨s.session.totals.lightsMerged, s.session.totals.lightsGroundOnly, s.session.totals.skyMs,
            s.plan.outputPedestal⟩ }
        results := { s.results with preview := .empty } }) ∧
    (s.engine.clearPending = false → s.engine.finishPending = false → (s.engine.previewPending = false ∨ heldBack) →
      (∀ j : Fin 6, s.ring.desc[j].state ≠ .waiting) → exec .engineTakesJob s = .next s) ∧
    (∀ i, s.engine.clearPending = false → s.engine.finishPending = false →
      (s.engine.previewPending = false ∨ heldBack) → s.ring.nextWaiting = some i →
      let d := s.ring.desc[i]
      let band := bandOf (d.temperature.getD 0)
      let slots := s.darks.slots
      let ofBand := fun k : Fin 4 => slots[k].state ≠ .empty ∧ slots[k].band = band
      let taken : State := { s with
        engine := { s.engine with job := .descriptor i, work := .darkMerging, tilesDone := 0 }
        ring := { s.ring with desc := s.ring.desc.set i { d with state := .merging } } }
      (d.kind = .light →
        (s.session.referenceSet = false ∨ d.pose.quality = .steady →
          let c := s.darks.calibrationFor band
          exec .engineTakesJob s = .next { s with
            engine := { s.engine with
              job := .descriptor i, work := .measuring s.session.referenceSet (some c), tilesDone := 0 }
            ring := { s.ring with desc := s.ring.desc.set i { d with state := .measuring } }
            darks := { s.darks with inUse := c.2 } }) ∧
        (s.session.referenceSet = true → d.pose.quality ≠ .steady → exec .engineTakesJob s = .next { s with
          engine := { s.engine with job := .descriptor i, work := .measuring true none, tilesDone := 0 }
          ring := { s.ring with desc := s.ring.desc.set i { d with state := .measuring } } })) ∧
      (d.kind = .dark →
        (∀ k, ofBand k → (∀ j, ofBand j → j = k) →
          (slots[k].count < 64 → exec .engineTakesJob s =
            .next { taken with darks := { s.darks with mergeTarget := some k } }) ∧
          (64 ≤ slots[k].count → exec .engineTakesJob s = .next (jobEnded (retire i (.darkDiscarded .slotFull) false
            { s with darks := { s.darks with
                slots := slots.set k { slots[k] with lastUsed := d.sub }
                useOrder := s.darks.useOrder.erase k ++ [k] } })))) ∧
        ((∀ j, ¬ofBand j) →
          (∀ k : Fin 4, slots[k].state = .empty → (∀ j : Fin 4, j < k → slots[j].state ≠ .empty) →
            exec .engineTakesJob s = .next { taken with darks := { s.darks with
              slots := slots.set k { slots[k] with state := .building, band := band, count := 0 }
              useOrder := s.darks.useOrder.erase k, mergeTarget := some k } }) ∧
          ((∀ j : Fin 4, slots[j].state ≠ .empty) →
            (∀ (before after : List (Fin 4)) (k : Fin 4), s.darks.useOrder = before ++ k :: after → slots[k].state = .ready →
              (∀ j ∈ before, slots[j].state ≠ .ready) →
              exec .engineTakesJob s = .next { taken with darks := { s.darks with
                slots := slots.set k { slots[k] with state := .building, band := band, count := 0 }
                useOrder := s.darks.useOrder.erase k, mergeTarget := some k } }) ∧
            ((∀ j ∈ s.darks.useOrder, slots[j].state ≠ .ready) → exec .engineTakesJob s =
              .next (jobEnded (retire i (.darkDiscarded .noSlot) false s)))))))) ∧
  (∀ (l : DarkLibrary) (b : Nat),
    let ready := fun (band : Nat) (k : Fin 4) => l.slots[k].state = .ready ∧ l.slots[k].band = band
    let below := fun k : Fin 4 => 0 < b ∧ ready (b - 1) k
    (∀ n j k, ready n j → ready n k → j = k) →
    (∀ k, ready b k → l.calibrationFor b = (.exact, some k)) ∧
    ((∀ k, ¬ready b k) →
      (∀ i j, below i → ready (b + 1) j →
        l.calibrationFor b = (.neighbour, some (if l.slots[i].count < l.slots[j].count then j else i))) ∧
      (∀ i, below i → (∀ j, ¬ready (b + 1) j) → l.calibrationFor b = (.neighbour, some i)) ∧
      (∀ j, ready (b + 1) j → (∀ i, ¬below i) → l.calibrationFor b = (.neighbour, some j)) ∧
      ((∀ i, ¬below i) → (∀ j, ¬ready (b + 1) j) → l.calibrationFor b = (.blackLevel, none))))

/-- A tile of a plane clear sets the records of its cells to zero in both planes and leaves every other record and
region as it is; tiles done goes on by one (R113). The arbiter grants it its accesses (R108): the Sensor Port comes
first, of the engine and a link bulk read that both wait the one not granted last, and else the one that waits; with the
memory not ACTIVE nobody is granted, and no tile, image line or bulk read is done. That one grant stands for all the
accesses of a tile is the model's choice (assumption 30), and so is that a tile in progress is granted while CHANGING is
set, for as long as the memory is ACTIVE (assumption 41). -/
def Obligations.AClearedTileHoldsZeros : Prop :=
  (∀ s : State, s.powered = true → s.engine.job = .planeClear → s.engine.work = .none → s.engine.stop = .none →
    s.engine.tilesDone < s.tileCount → s.memoryWf = true →
    ∃ t, exec .engineTileComplete s = .next t ∧
      t = { s with
        engine := { s.engine with tilesDone := s.engine.tilesDone + 1, lastGranted := .engine }
        dram := { s.dram with sky := t.dram.sky, ground := t.dram.ground } } ∧
      ∀ k : Nat,
        let cleared := ∃ c ∈ tileCells s.port.width s.engine.tilesDone, cellIndex s.port.width c.1 c.2 = k
        (cleared → regionRead CellRecord.zero t.dram.sky k = CellRecord.zero ∧
          regionRead CellRecord.zero t.dram.ground k = CellRecord.zero) ∧
        (¬cleared → regionRead CellRecord.zero t.dram.sky k = regionRead CellRecord.zero s.dram.sky k ∧
          regionRead CellRecord.zero t.dram.ground k = regionRead CellRecord.zero s.dram.ground k)) ∧
  (∀ (sensorPort engine link : Bool) (last : Requester) (u : MemoryUser),
    arbiterGrant false sensorPort engine link last = none ∧
    (arbiterGrant true sensorPort engine link last = some u ↔
      (u = .sensorPort ∧ sensorPort = true) ∨
      (u = .engine ∧ sensorPort = false ∧ engine = true ∧ (link = true → last = .link)) ∨
      (u = .link ∧ sensorPort = false ∧ link = true ∧ (engine = true → last = .engine)))) ∧
  (∀ s : State, s.powered = false → s.power.memory ≠ .active → s.engine.stop ≠ .close →
    exec .engineTileComplete s = .next s ∧ exec .bulkReadComplete s = .next s ∧
    ∀ lanes, ∃ t, exec (.imageLine lanes) s = .next t ∧ t = { s with port := t.port })

/-- The merge of a tile accounts for every contribution it forms: the merged-cell counts and the rejected cells grow
together by the number of ground and sky contributions of the tile's cells (R114 to R119, R182). Each record of a cell
of the tile takes the cell's contribution where the test does not drop it, and every other record stays; the completed
tile writes these planes, the descriptor's counts and the rejected cells total (R114, R120). A tile of a dark's merge
adds the four raw values of each of its cells to the slot's sums, or writes them where the slot's count is 0, and
changes nothing else of the memory (R95). A ground contribution is the light's own values in a GROUND or BLEND tile
(R116). A sky contribution is, in a SKY or BLEND tile, the values of the sub cell that holds the mapped centre of the
cell, by the floor, unless that lies outside the frame or in a GROUND tile (R117). The transform and its inverse are
those of R70 and R71, with the sine and cosine of R69: the quarter of the angle picks the entry of the table and its
sign. -/
def Obligations.MergedTilesAccountForEveryContribution : Prop :=
  (∀ (l : Light) (plan : Plan) (sky : Option Transform) (t : Nat) (acc : MergeAcc),
    let after := l.mergeTile plan sky t acc
    let cells := tileCells l.width t
    let ground := (cells.filter fun c => (l.groundContribution c.1 c.2).isSome).length
    let fromSky := (cells.filter fun c => (sky.bind fun m => l.skyContribution m c.1 c.2).isSome).length
    after.mergedSky + after.mergedGround + after.rejected =
      acc.mergedSky + acc.mergedGround + acc.rejected + ground + fromSky ∧
    (sky = none → after.sky = acc.sky ∧ after.mergedSky = acc.mergedSky)) ∧
  (∀ (l : Light) (plan : Plan) (sky : Option Transform) (t : Nat) (acc : MergeAcc),
    64 ≤ l.width → regionWf CellRecord.zero acc.sky = true → regionWf CellRecord.zero acc.ground = true →
    let after := l.mergeTile plan sky t acc
    let cells := tileCells l.width t
    let taken := fun (old : CellRecord) (x : Option Quad) => match x with
      | none => old
      | some v => if rejects plan old v = true then old else old.accept v
    (∀ c ∈ cells,
      let k := cellIndex l.width c.1 c.2
      regionRead CellRecord.zero after.ground k =
        taken (regionRead CellRecord.zero acc.ground k) (l.groundContribution c.1 c.2) ∧
      regionRead CellRecord.zero after.sky k =
        taken (regionRead CellRecord.zero acc.sky k) (sky.bind fun m => l.skyContribution m c.1 c.2)) ∧
    (∀ k, (∀ c ∈ cells, cellIndex l.width c.1 c.2 ≠ k) →
      regionRead CellRecord.zero after.ground k = regionRead CellRecord.zero acc.ground k ∧
      regionRead CellRecord.zero after.sky k = regionRead CellRecord.zero acc.sky k)) ∧
  (∀ (l : Light) (m : Transform) (i j : Nat),
    let tile := fun x y : Nat => (regionRead TileEntry.default l.tiles (tileIndex l.width (x / 32) (y / 32))).tileClass
    let at' := m.apply l.width l.height (32 * i + 16, 32 * j + 16)
    (tile i j = .sky → l.groundContribution i j = none) ∧
    (tile i j ≠ .sky → l.groundContribution i j = some (l.cell i j)) ∧
    (tile i j = .ground → l.skyContribution m i j = none) ∧
    (¬(0 ≤ at'.1 ∧ at'.1 < 32 * (l.width / 2 : Nat) ∧ 0 ≤ at'.2 ∧ at'.2 < 32 * (l.height / 2 : Nat)) →
      l.skyContribution m i j = none) ∧
    (∀ x y : Nat, x < l.width / 2 → y < l.height / 2 → 32 * (x : Int) ≤ at'.1 → at'.1 < 32 * (x : Int) + 32 →
      32 * (y : Int) ≤ at'.2 → at'.2 < 32 * (y : Int) + 32 → tile i j ≠ .ground →
      l.skyContribution m i j = if tile x y = .ground then none else some (l.cell x y))) ∧
  (∀ (w h : Nat) (m : Transform) (r : Position),
    let c : Position := (8 * w, 8 * h)
    let sn := sine m.phi
    let cs := cosine m.phi
    let d : Position := (r.1 - c.1, r.2 - c.2)
    let u : Position := (r.1 - c.1 - m.tx, r.2 - c.2 - m.ty)
    m.apply w h r = (roundDiv (d.1 * cs - d.2 * sn) 32767 + c.1 + m.tx,
      roundDiv (d.1 * sn + d.2 * cs) 32767 + c.2 + m.ty) ∧
    m.inverse w h r = (roundDiv (u.1 * cs + u.2 * sn) 32767 + c.1, roundDiv (u.2 * cs - u.1 * sn) 32767 + c.2) ∧
    Transform.identity.apply w h r = r) ∧
  (∀ phi : Nat, phi < 65536 →
    let a := phi - 16384 * (phi / 16384)
    (phi / 16384 = 0 → sine phi = sineEntry a) ∧ (phi / 16384 = 1 → sine phi = sineEntry (16384 - a)) ∧
    (phi / 16384 = 2 → sine phi = -sineEntry a) ∧ (phi / 16384 = 3 → sine phi = -sineEntry (16384 - a)) ∧
    cosine phi = sine ((phi + 16384) % 65536) ∧ sine ((65536 - phi) % 65536) = -sine phi ∧
    cosine ((65536 - phi) % 65536) = cosine phi) ∧
  (sineEntry 0 = 0 ∧ sineEntry 1820 = 5689 ∧ sineEntry 14564 = 32269 ∧ sineEntry 16384 = 32767) ∧
  (∀ (s : State) (i : Fin 6), s.powered = true → s.engine.job = .descriptor i → s.engine.stop = .none →
    s.engine.tilesDone < s.tileCount →
    let d := s.ring.desc[i]
    let counted := { s.engine with tilesDone := s.engine.tilesDone + 1, lastGranted := .engine }
    (∀ o aligned sky, s.engine.work = .merging o aligned sky →
      let after := (s.lightOf i s.darks.inUse).mergeTile d.snapshot sky s.engine.tilesDone
        ⟨s.dram.sky, s.dram.ground, d.mergedSky, d.mergedGround, 0⟩
      exec .engineTileComplete s = .next { s with
        engine := counted
        dram := { s.dram with sky := after.sky, ground := after.ground }
        ring := { s.ring with desc := s.ring.desc.set i { d with
          mergedSky := after.mergedSky, mergedGround := after.mergedGround
          rejectedCells := d.rejectedCells + after.rejected } }
        session := { s.session with totals := { s.session.totals with
          rejectedCells := s.session.totals.rejectedCells + after.rejected } } }) ∧
    (∀ k, s.engine.work = .darkMerging → s.darks.mergeTarget = some k → s.memoryWf = true → 64 ≤ s.port.width →
      ∃ t, exec .engineTileComplete s = .next t ∧
        t = { s with engine := counted, dram := { s.dram with darkSums := t.dram.darkSums } } ∧
        (∀ j : Fin 4, j ≠ k → t.dram.darkSums[j] = s.dram.darkSums[j]) ∧
        (∀ c ∈ tileCells s.port.width s.engine.tilesDone,
          let index := cellIndex s.port.width c.1 c.2
          let raw := rawQuad s.port.bayer s.dram.staging[i] c.1 c.2
          let old := regionRead Quad.zero s.dram.darkSums[k] index
          regionRead Quad.zero t.dram.darkSums[k] index = if s.darks.slots[k].count = 0 then raw
            else ⟨old.r + raw.r, old.ga + raw.ga, old.gb + raw.gb, old.b + raw.b⟩) ∧
        (∀ index, (∀ c ∈ tileCells s.port.width s.engine.tilesDone, cellIndex s.port.width c.1 c.2 ≠ index) →
          regionRead Quad.zero t.dram.darkSums[k] index = regionRead Quad.zero s.dram.darkSums[k] index)))

/-- The rejection test, exactly (R118), and what acceptance adds (R119): a contribution is dropped if any one of its four
channels stands too far above what the record has gathered. -/
def Obligations.TheRejectionTestIsExact : Prop :=
  (∀ (k nMin v0 n sum square x : Nat), channelFails k nMin v0 n sum square x = true ↔
    (nMin ≤ n ∧ sum < n * x ∧
      (k : Int) ^ 2 * max ((n : Int) * square - (sum : Int) ^ 2) ((n : Int) ^ 2 * v0) <
        ((n : Int) * x - sum) ^ 2 * 256)) ∧
  (∀ (plan : Plan) (r : CellRecord) (x : Quad), rejects plan r x = true ↔
    ∃ ch : Quad → Nat, ch ∈ [Quad.r, Quad.ga, Quad.gb, Quad.b] ∧
      channelFails plan.rejectK plan.rejectMin plan.floorVariance r.count (ch r.sum) (ch r.square) (ch x) = true) ∧
  (∀ (r : CellRecord) (x : Quad) (ch : Quad → Nat), ch ∈ [Quad.r, Quad.ga, Quad.gb, Quad.b] →
    ch (r.accept x).sum = ch r.sum + ch x ∧ ch (r.accept x).square = ch r.square + ch x ^ 2 ∧
      (r.accept x).count = r.count + 1)

/-- The part's completions: the clear makes an ARMING session ARMED, a merged light retires with its decided outcome, the
finish makes the output VALID and the session FINISHED, where a pending plan becomes active (R23), and the preview is
VALID with its stamp (R4, R113, R120, R128, R134). In any session state the light's retirement has all that its outcome
calls for, and the calibration is no longer in use (R102). That tiles done reads 0 after a job is the model's choice
(assumption 40). A dark merge counts one dark more in its slot, READY from the dark minimum of the dark's snapshot on,
makes the slot the most recently used, and retires the dark DARK_MERGED (R92, R95). -/
def Obligations.JobsCompleteWithTheirEffects : Prop :=
  (∀ s : State, s.tileCount ≤ s.engine.tilesDone → s.engine.stop ≠ .close →
    let idle : Engine := { s.engine with job := .none, work := .none, tilesDone := 0, stop := .none }
    (s.engine.job = .planeClear → s.session.state = .arming → exec .planeClearComplete s =
      .next (raise .sessionState { s with
        engine := idle, session := { s.session with state := .armed, pauseCause := none } })) ∧
    (∀ i o aligned sky, s.engine.job = .descriptor i → s.engine.work = .merging o aligned sky →
      s.session.state = .integrating → o = .merged → exec .lightMergeComplete s = .next { retireRecord i o aligned
        { s with darks := { s.darks with inUse := none } } with engine := idle }) ∧
    (s.engine.job = .finish → s.session.state = .finishing → s.session.pendingPlan = none → exec .finishComplete s =
      .next (raise .sessionState (raise .finishDone { s with
        engine := idle, results := { s.results with output := .valid }
        session := { s.session with state := .finished, pauseCause := none } }))) ∧
    (∀ k, s.engine.job = .finish → s.session.state = .finishing → s.session.pendingPlan = some k →
      exec .finishComplete s = .next (raise .planSwitched (raise .sessionState (raise .finishDone { s with
        engine := idle, results := { s.results with output := .valid }
        session := { s.session with
          state := .finished, pauseCause := none, activePlan := k, pendingPlan := none } })))) ∧
    (∀ i o aligned sky, s.engine.job = .descriptor i → s.engine.work = .merging o aligned sky →
      exec .lightMergeComplete s =
        .next (jobEnded (retire i o aligned { s with darks := { s.darks with inUse := none } }))) ∧
    (∀ note, s.engine.job = .preview → s.engine.work = .preview note → exec .previewComplete s =
      .next (raise .previewDone { s with
        engine := idle
        results := { s.results with
          preview := .valid, stamp := ⟨note, s.seq.clock⟩, lastPreviewEnd := some .completed } }))) ∧
  (∀ (s : State) (i : Fin 6) (k : Fin 4), s.tileCount ≤ s.engine.tilesDone → s.engine.stop ≠ .close →
    s.engine.job = .descriptor i → s.engine.work = .darkMerging → s.darks.mergeTarget = some k →
    ∃ t, exec .darkMergeComplete s = .next t ∧
      t.darks = { s.darks with
        slots := s.darks.slots.set k { s.darks.slots[k] with
          count := s.darks.slots[k].count + 1, lastUsed := s.ring.desc[i].sub
          state := if s.ring.desc[i].snapshot.darkMinimum ≤ s.darks.slots[k].count + 1 then .ready else .building }
        useOrder := s.darks.useOrder.erase k ++ [k], mergeTarget := none } ∧
      t.ring.desc[i].state = .retired ∧ t.ring.desc[i].outcome = some .darkMerged ∧
      t.session.totals.darksMerged = s.session.totals.darksMerged + 1 ∧ t.engine.job = .none ∧ t.dram = s.dram)

/-- A measurement completes with all its results at once (R75). A referencing attempt with fewer than six stars goes on
to its merge GROUND_ONLY (REFERENCE_FAILED); with six or more it sets the reference and goes on as the reference sub, in
REFERENCING, where the session becomes INTEGRATING, and in PAUSED and DRAINING, which stay (R9, R82): the stars stand in
entry 0 and onward in the order taken, and fewer than 8 raise STAR_COUNT_LOW and set the re-acquisition due flag (R78).
An aligned light of quality SHAKEN or MOVED is retired with its pose in the history and nothing measured (R10, R74). A
STEADY one has its pose resolved, POSE_LATE raised for a predicted one (R74), every star measured from its predicted
position (R84, R85), the trimmed residual formed (R86), the drift record written with DRIFT_READY (R87), the calibration
recorded (R100), the table re-acquired where that was due and the residual is APPLIED (R83), and the table change judged
(R78); it goes on to its merge with the outcome decided. The session, the memory and the sequencer are left alone. The
window, its ring and its centroid are those of R79, the candidates and their order those of R80, and a run takes them by
the steps of R81. That a reused LOST entry gives up its old position within the run is the model's reading (assumption
18). -/
def Obligations.MeasurementsApplyTheirResultsTogether : Prop :=
  (∀ (s : State) (i : Fin 6) (c : Option (Calibration × Option (Fin 4))), s.powered = true →
    s.engine.job = .descriptor i → s.engine.stop = .none →
    (∀ phi tx ty, s.engine.work = .measuring true c → s.ring.desc[i].pose = .reported phi tx ty .shaken →
      s.session.state = .integrating →
      ∃ t, exec .measurementComplete s = .next t ∧ t.engine.job = .none ∧
        t.ring.desc[i].state = .retired ∧ t.ring.desc[i].outcome = some (.rejected .shake) ∧
        t.session.movedCount = 0 ∧ t.session.totals.rejectedShake = s.session.totals.rejectedShake + 1 ∧
        t.guidance.history =
          List.take 2 (⟨s.ring.desc[i].sub, s.ring.desc[i].midTime, phi, tx, ty, .shaken⟩ :: s.guidance.history) ∧
        t.guidance = { s.guidance with history := t.guidance.history } ∧
        t.darks = s.darks ∧ t.dram = s.dram ∧ t.seq = s.seq) ∧
    (∀ phi tx ty q, s.engine.work = .measuring true c → s.ring.desc[i].pose = .reported phi tx ty q → q ≠ .steady →
      let history := List.take 2 (⟨s.ring.desc[i].sub, s.ring.desc[i].midTime, phi, tx, ty, q⟩ :: s.guidance.history)
      exec .measurementComplete s =
        .next (jobEnded (retire i (.rejected (if q = .shaken then .shake else .moved)) true
          { s with guidance := { s.guidance with history := history } }))) ∧
    (s.engine.work = .measuring false c →
      let d := s.ring.desc[i]
      let plan := d.snapshot
      let l := s.lightOf i (c.bind Prod.snd)
      let taken := l.takeStars plan.windowRadius plan.starThreshold id referencingEntries
        (heldPositions s.guidance.stars) (l.candidates plan.starThreshold)
      let begins := s.session.state = .referencing
      6 ≤ taken.length →
      ∃ t, exec .measurementComplete s = .next t ∧
        t.session = { s.session with
          referenceSet := true, state := if begins then .integrating else s.session.state
          pauseCause := if begins then none else s.session.pauseCause } ∧
        t.engine = { s.engine with work := .merging .merged false (some Transform.identity), tilesDone := 0 } ∧
        t.ring = { s.ring with desc := s.ring.desc.set i { d with
          state := .merging, residual := some (0, 0), matched := taken.length
          calibration := (c.map Prod.fst).or d.calibration } } ∧
        t.guidance = { s.guidance with
          stars := t.guidance.stars, reference := some ⟨d.sub, d.midTime⟩
          drift := some ⟨d.sub, some (0, 0), taken.length, .reference, .applied⟩
          reacquisitionDue := decide (lockedCount t.guidance.stars < 8) } ∧
        (∀ k : Fin 24, t.guidance.stars[k] = match taken[k.val]? with
          | some x => ⟨.locked, x.ref.1, x.ref.2, x.flux, some x.pos, some (0, 0), 0, d.sub⟩
          | none => s.guidance.stars[k]) ∧
        ((∀ k : Fin 24, s.guidance.stars[k].state = .vacant) → lockedCount t.guidance.stars = taken.length) ∧
        t.darks = (match c.bind Prod.snd with
          | none => s.darks
          | some k => { s.darks with
              slots := s.darks.slots.set k { s.darks.slots[k] with lastUsed := d.sub }
              useOrder := s.darks.useOrder.erase k ++ [k] }) ∧
        t.dram = s.dram ∧ t.seq = s.seq ∧ t.port = s.port ∧ t.results = s.results ∧ t.power = s.power ∧
        t.lines = s.lines ∧
        (∀ link : LinkState, link = t.pLink ∨ link = t.sLink → link.pendingSet.getLsbD 8 = true ∧
          link.pendingSet.getLsbD 9 = true ∧ (begins → link.pendingSet.getLsbD 0 = true) ∧
          (lockedCount t.guidance.stars < 8 → link.pendingSet.getLsbD 10 = true)) ∧
        (8 ≤ lockedCount t.guidance.stars →
          t.pLink.pendingSet.getLsbD 10 = s.pLink.pendingSet.getLsbD 10 ∧
          t.sLink.pendingSet.getLsbD 10 = s.sLink.pendingSet.getLsbD 10)) ∧
    (s.engine.work = .measuring false c →
      let d := s.ring.desc[i]
      let l := s.lightOf i (c.bind Prod.snd)
      let taken := l.takeStars d.snapshot.windowRadius d.snapshot.starThreshold id referencingEntries
        (heldPositions s.guidance.stars) (l.candidates d.snapshot.starThreshold)
      taken.length < 6 → exec .measurementComplete s = .next { s with
        engine := { s.engine with work := .merging (.groundOnly .referenceFailed) false none, tilesDone := 0 }
        ring := { s.ring with desc := s.ring.desc.set i { d with
          state := .merging, calibration := (c.map Prod.fst).or d.calibration } }
        darks := match c.bind Prod.snd with
          | none => s.darks
          | some k => { s.darks with
              slots := s.darks.slots.set k { s.darks.slots[k] with lastUsed := d.sub }
              useOrder := s.darks.useOrder.erase k ++ [k] } }) ∧
    (s.engine.work = .measuring true c → s.ring.desc[i].pose.quality = .steady →
      let d := s.ring.desc[i]
      let plan := d.snapshot
      let l := s.lightOf i (c.bind Prod.snd)
      let pose : Transform := match d.pose with
        | .reported phi tx ty _ => ⟨phi, tx, ty⟩
        | _ => predictPose s.guidance.history d.midTime
      let stars := s.guidance.stars
      let found := stars.toList.filterMap fun x => (l.findStar pose plan.windowRadius plan.starThreshold x).map Prod.snd
      let measured := stars.map (l.measureStar pose plan.windowRadius plan.starThreshold d.sub)
      let few := found.length < 3
      let ex := trimmedMean (found.map Prod.fst)
      let ey := trimmedMean (found.map Prod.snd)
      let exceeded := plan.driftLimit < ex.natAbs ∨ plan.driftLimit < ey.natAbs
      let merge : Transform := ⟨pose.phi, pose.tx + ex, pose.ty + ey⟩
      let residual : Option (Int × Int) := if few then none else some (ex, ey)
      let result : DriftResult := if few then .tooFew else if exceeded then .exceeded else .applied
      let outcome : SubOutcome := if few then .groundOnly .noStars else if exceeded then .groundOnly .drift else .merged
      let table := if s.guidance.reacquisitionDue = true ∧ ¬few ∧ ¬exceeded then reacquire l plan merge d.sub measured
        else measured
      ∃ t, exec .measurementComplete s = .next t ∧
        t.engine = { s.engine with
          work := .merging outcome true (if few ∨ exceeded then none else some merge), tilesDone := 0 } ∧
        t.ring = { s.ring with desc := s.ring.desc.set i { d with
          state := .merging, residual := residual, matched := found.length
          calibration := (c.map Prod.fst).or d.calibration
          pose := match d.pose with
            | .reported _ _ _ _ => d.pose
            | _ => .predicted pose.phi pose.tx pose.ty } } ∧
        t.guidance = { s.guidance with
          stars := table
          drift := some ⟨d.sub, residual, found.length,
            (match d.pose with
              | .reported _ _ _ _ => .reported
              | _ => .predicted), result⟩
          history := match d.pose with
            | .reported phi tx ty q => List.take 2 (⟨d.sub, d.midTime, phi, tx, ty, q⟩ :: s.guidance.history)
            | _ => s.guidance.history
          reacquisitionDue := if table = stars then s.guidance.reacquisitionDue else decide (lockedCount table < 8) } ∧
        t.darks = (match c.bind Prod.snd with
          | none => s.darks
          | some k => { s.darks with
              slots := s.darks.slots.set k { s.darks.slots[k] with lastUsed := d.sub }
              useOrder := s.darks.useOrder.erase k ++ [k] }) ∧
        ((∀ phi tx ty q, d.pose ≠ .reported phi tx ty q) →
          t.pLink.pendingSet.getLsbD 11 = true ∧ t.sLink.pendingSet.getLsbD 11 = true) ∧
        t.pLink.pendingSet.getLsbD 9 = true ∧ t.sLink.pendingSet.getLsbD 9 = true ∧
        (8 ≤ lockedCount stars → lockedCount table < 8 →
          t.pLink.pendingSet.getLsbD 10 = true ∧ t.sLink.pendingSet.getLsbD 10 = true) ∧
        t.session = s.session ∧ t.seq = s.seq ∧ t.port = s.port ∧ t.results = s.results ∧ t.power = s.power ∧
        t.lines = s.lines ∧ t.dram = s.dram)) ∧
  (∀ (l : Light) (pose : Transform) (rw threshold sub : Nat) (x : Star),
    let p := pose.apply l.width l.height (x.refX, x.refY)
    let px := p.1 / 16
    let py := p.2 / 16
    let inside := 0 ≤ px - rw ∧ px + rw ≤ (l.width : Int) - 1 ∧ 0 ≤ py - rw ∧ py + rw ≤ (l.height : Int) - 1
    let ground := (regionRead TileEntry.default l.tiles
      (tileIndex l.width (px / 64).toNat (py / 64).toNat)).tileClass = .ground
    (x.state = .vacant → l.measureStar pose rw threshold sub x = x ∧ l.findStar pose rw threshold x = none) ∧
    (x.state ≠ .vacant → ¬(inside ∧ ¬ground) →
      l.measureStar pose rw threshold sub x = { x with state := .hidden } ∧ l.findStar pose rw threshold x = none) ∧
    (x.state ≠ .vacant → inside → ¬ground →
      (∀ q, l.centroid px py rw threshold = some q →
        l.findStar pose rw threshold x = some (q, (q.1 - p.1, q.2 - p.2)) ∧
        l.measureStar pose rw threshold sub x = { x with
          state := .locked, missCount := 0, lastPos := some q, lastResidual := some (q.1 - p.1, q.2 - p.2)
          lastFound := sub }) ∧
      (l.centroid px py rw threshold = none →
        l.findStar pose rw threshold x = none ∧
        l.measureStar pose rw threshold sub x = { x with
          state := if x.missCount < 2 then .missing else .lost, missCount := min 255 (x.missCount + 1) }))) ∧
  (∀ (l : Light) (i j : Int),
    let inside := 0 ≤ i ∧ i < (l.width / 2 : Nat) ∧ 0 ≤ j ∧ j < (l.height / 2 : Nat)
    (inside → l.luminanceAt i j = l.luminance i.toNat j.toNat) ∧ (¬inside → l.luminanceAt i j = 0)) ∧
  (∀ (l : Light) (px py : Int) (rw threshold : Nat) (q : Position),
    let cells := windowCells px py rw
    let ring := cells.filter (onRing px py rw)
    let level := (ring.map fun c => l.luminanceAt c.1 c.2).sum / ring.length
    let weight := fun c : Int × Int => l.luminanceAt c.1 c.2 - level - threshold
    let total := (cells.map weight).sum
    let before := fun a b : Int × Int => a.2 < b.2 ∨ (a.2 = b.2 ∧ a.1 < b.1)
    (∀ c, c ∈ cells ↔ |2 * c.1 + 1 - px| ≤ rw ∧ |2 * c.2 + 1 - py| ≤ rw) ∧ cells.Pairwise before ∧
    (∀ c ∈ cells, onRing px py rw c = true ↔
      (∀ d ∈ cells, c.1 ≤ d.1) ∨ (∀ d ∈ cells, d.1 ≤ c.1) ∨ (∀ d ∈ cells, c.2 ≤ d.2) ∨ (∀ d ∈ cells, d.2 ≤ c.2)) ∧
    (l.centroid px py rw threshold = some q ↔ 0 < total ∧
      (∃ c ∈ cells, onRing px py rw c = false ∧
        ∀ d ∈ cells, weight d < weight c ∨ (weight d = weight c ∧ ¬before d c)) ∧
      q = (roundDiv (cells.map fun c => (weight c : Int) * (32 * c.1 + 16)).sum total,
        roundDiv (cells.map fun c => (weight c : Int) * (32 * c.2 + 16)).sum total))) ∧
  (∀ (l : Light) (threshold : Nat),
    let inside := fun i j : Int => 0 ≤ i ∧ i < (l.width / 2 : Nat) ∧ 0 ≤ j ∧ j < (l.height / 2 : Nat)
    let level := fun i j : Int => l.luminanceAt i j
    let peak := fun i j : Nat =>
      (regionRead TileEntry.default l.tiles (tileIndex l.width (i / 32) (j / 32))).tileClass = .sky ∧
      threshold ≤ level i j ∧
      (∀ n ∈ [((-1 : Int), (-1 : Int)), (0, -1), (1, -1), (-1, 0)], inside (i + n.1) (j + n.2) →
        level (i + n.1) (j + n.2) < level i j) ∧
      (∀ n ∈ [((1 : Int), (0 : Int)), (-1, 1), (0, 1), (1, 1)], inside (i + n.1) (j + n.2) →
        level (i + n.1) (j + n.2) ≤ level i j)
    let flux := fun i j : Nat => ([(-2 : Int), -1, 0, 1, 2].flatMap fun dj =>
      [(-2 : Int), -1, 0, 1, 2].map fun di => level (i + di) (j + dj)).sum
    (∀ c : Candidate, c ∈ l.candidates threshold ↔
      c.i < l.width / 2 ∧ c.j < l.height / 2 ∧ peak c.i c.j ∧ c.flux = flux c.i c.j) ∧
    (l.candidates threshold).Pairwise fun a b =>
      b.flux < a.flux ∨ (a.flux = b.flux ∧ (a.j < b.j ∨ (a.j = b.j ∧ a.i < b.i)))) ∧
  (∀ (l : Light) (rw threshold : Nat) (refOf : Position → Position) (entry : Option Position)
      (entries : List (Option Position)) (held : List Position) (c : Candidate) (cs : List Candidate),
    let x : Int := 32 * c.i + 16
    let y : Int := 32 * c.j + 16
    let room : Int := 16 * (rw + 2)
    let edge := room ≤ x ∧ room ≤ 16 * l.width - x ∧ room ≤ y ∧ room ≤ 16 * l.height - y
    let apart := fun r p : Position => 512 ≤ max |r.1 - p.1| |r.2 - p.2|
    let found := l.centroid (2 * c.i + 1) (2 * c.j + 1) rw threshold
    l.takeStars rw threshold refOf [] held (c :: cs) = [] ∧ l.takeStars rw threshold refOf entries held [] = [] ∧
    (¬edge ∨ found = none ∨ (∃ pos p, found = some pos ∧ p ∈ held ∧ ¬apart (refOf pos) p) →
      l.takeStars rw threshold refOf (entry :: entries) held (c :: cs) =
        l.takeStars rw threshold refOf (entry :: entries) held cs) ∧
    (∀ pos, edge → found = some pos → (∀ p ∈ held, apart (refOf pos) p) →
      l.takeStars rw threshold refOf (entry :: entries) held (c :: cs) = ⟨refOf pos, c.flux, pos⟩ ::
        l.takeStars rw threshold refOf entries
          ((match entry with
            | none => held
            | some old => held.erase old) ++ [refOf pos]) cs)) ∧
  (referencingEntries = List.replicate 24 none ∧
    (∀ x : Star, x.position = if x.state = .vacant then none else some (x.refX, x.refY)) ∧
    ∀ stars : Vector Star 24, heldPositions stars = stars.toList.filterMap Star.position) ∧
  (∀ values sorted : List Int, List.Perm values sorted → List.Pairwise (fun a b => a ≤ b) sorted →
    let m := values.length
    let kept := (sorted.drop (m / 4)).take (m - 2 * (m / 4))
    trimmedMean values = roundDiv kept.sum ((m - 2 * (m / 4) : Nat) : Int)) ∧
  (∀ (stars : Vector Star 24) (i j : Fin 24),
    (i ∈ freeEntries stars ↔ stars[i].state = .vacant ∨ stars[i].state = .lost) ∧ (freeEntries stars).Nodup ∧
    (i ∈ freeEntries stars → j ∈ freeEntries stars →
      ((freeEntries stars).idxOf i < (freeEntries stars).idxOf j ↔
        (stars[i].state = .vacant ∧ stars[j].state = .vacant ∧ i < j) ∨
        (stars[i].state = .vacant ∧ stars[j].state = .lost) ∨
        (stars[i].state = .lost ∧ stars[j].state = .lost ∧
          (stars[j].missCount < stars[i].missCount ∨ (stars[i].missCount = stars[j].missCount ∧ i < j)))))) ∧
  (∀ (l : Light) (plan : Plan) (m : Transform) (sub : Nat) (stars : Vector Star 24),
    let entries := freeEntries stars
    let taken := l.takeStars plan.windowRadius plan.starThreshold (m.inverse l.width l.height)
      (entries.map fun i => stars[i].position) (heldPositions stars) (l.candidates plan.starThreshold)
    let after := reacquire l plan m sub stars
    taken.length ≤ entries.length ∧
    (∀ (k : Nat) (i : Fin 24) (x : TakenStar), entries[k]? = some i → taken[k]? = some x →
      after[i] = ⟨.locked, x.ref.1, x.ref.2, x.flux, some x.pos, none, 0, sub⟩) ∧
    (∀ i : Fin 24, i ∉ entries.take taken.length → after[i] = stars[i])) ∧
  (∀ (m : Clock) (a b : PoseEntry) (older : List PoseEntry),
    predictPose [] m = ⟨0, 0, 0⟩ ∧ predictPose [b] m = ⟨b.phi, b.tx, b.ty⟩ ∧
    (a.midTime ≠ b.midTime →
      let num : Int := (m - b.midTime).toNat
      let den : Int := (b.midTime - a.midTime).toNat
      let line := fun (v diff : Int) => roundDiv (v * den + diff * num) den
      predictPose (b :: a :: older) m =
        ⟨(line b.phi ((BitVec.ofInt 16 ((b.phi : Int) - a.phi)).toInt) % 65536).toNat,
          max (-8388608) (min (line b.tx (b.tx - a.tx)) 8388607),
          max (-8388608) (min (line b.ty (b.ty - a.ty)) 8388607)⟩))

/-! ## Power states -/

/-- The hold entry in ACTIVE with nothing exposing, reading or in the engine: the power state is HOLD with CHANGING set
and the reserve timer running, a running session is PAUSED (HOLD), and HOLD_CHANGED is raised (R18, R47, R148). A
session in any other state keeps its state and its pause cause, but that a drain goes on to FINISHING where the hold
retires its last sub in flight (R13, R18). An exposing sub and a READING descriptor are retired REJECTED (ABANDONED),
the frame being received is discarded, and the sequencer enters IDLE (R47, R58). A merge with no tile done retires
PARTIAL at once, with its counts as they stand (R121). From DOZE the transition is complete at once (R148). A pending
preview is dropped (R134), and a busy engine is asked to stop (R121): at the end of its tile a clear or a finish has its
mark set again, a preview is dropped, a light in MEASURING goes back to WAITING, a merge retires PARTIAL, and the slot
of a dark is emptied (R96). That the entry and a change of PF_WARN to asserted are one event is the model's reading
(assumption 25), and so are these: the debounce timer is absent in HOLD (assumption 34), and a measurement under a stop
never completes (assumption 11). Its choices are that tiles done reads 0 once a job has been stopped, where R121 says so
of a clear alone (assumption 40), and that the engine domain stays on until the entry completes (assumption 42). So is
that the tile in progress is granted its accesses while CHANGING is set, for as long as the memory is ACTIVE, where R139
grants none (assumption 41). -/
def Obligations.TheHoldEntryPausesARunningSession : Prop :=
  (∀ s : State, s.power.state = .active → s.power.changing = false → s.running = true → s.seq.phase = .waitStart →
    s.reading = none → s.engine.job = .none → s.engine.previewPending = false →
    (∃ t, exec .holdEntry s = .next t ∧ t.power = { s.power with
        state := .hold, changing := true
        reserveTimer := some (s.seq.clock + BitVec.ofNat 32 (1000 * s.session.holdReserve)) } ∧
      t.session = { s.session with state := .paused, pauseCause := some .hold } ∧ t.seq.phase = .idle ∧
      t.seq.cadenceTimer = none ∧ t.lines = { s.lines with trigger := false, shutterClose := false, pfWarn := true } ∧
      t.ring = s.ring ∧ t.dram = s.dram ∧ t.guidance = s.guidance ∧ t.darks = s.darks ∧
      t.pLink.pendingSet.getLsbD 14 = true ∧ t.sLink.pendingSet.getLsbD 14 = true) ∧
    (s.lines.pfWarn = false → exec (.pfWarnLineChange true) s = exec .holdEntry s)) ∧
  (∀ s : State, (s.power.state = .active ∨ s.power.state = .doze) → s.power.changing = false →
    (s.session.state ∉ [.idle, .lost] ∨ ∃ k : Fin 4, s.darks.slots[k].state ≠ .empty) →
    ∃ t, exec .holdEntry s = .next t ∧
      t.power = { s.power with
        state := .hold, changing := decide (s.power.state = .active)
        reserveTimer := some (s.seq.clock + BitVec.ofNat 32 (1000 * s.session.holdReserve)) } ∧
      (s.session.state ∈ [.referencing, .integrating] →
        t.session.state = .paused ∧ t.session.pauseCause = some .hold) ∧
      (s.session.state ∉ [.referencing, .integrating, .draining] →
        t.session.state = s.session.state ∧ t.session.pauseCause = s.session.pauseCause) ∧
      (s.session.state ∉ [.referencing, .integrating] → s.seq.phase ≠ .exposing → s.reading = none →
        s.engine.job = .none → t.session = s.session ∧ t.ring = s.ring) ∧
      (∀ c, s.session.state = .draining → s.seq.phase = .exposing → s.seq.current = some c → s.reading = none →
        s.engine.job = .none →
        (∀ j : Fin 6, j ≠ c.index → s.ring.desc[j].inFlight = true → t.session.state = .draining) ∧
        ((∀ j : Fin 6, j ≠ c.index → s.ring.desc[j].inFlight = false) →
          t.session.state = .finishing ∧ t.engine.finishPending = true)) ∧
      (∀ i, s.session.state = .draining → s.seq.phase ≠ .exposing → s.reading = some i → s.engine.job = .none →
        (∀ j : Fin 6, j ≠ i → s.ring.desc[j].inFlight = true → t.session.state = .draining) ∧
        ((∀ j : Fin 6, j ≠ i → s.ring.desc[j].inFlight = false) →
          t.session.state = .finishing ∧ t.engine.finishPending = true)) ∧
      t.seq = { s.seq with
        phase := .idle, cadenceTimer := none, keptExpiry := false, wakeAlarm := none, shutterTimer := none
        current := none, debounceTimer := none } ∧
      t.lines = { s.lines with trigger := false, shutterClose := false, pfWarn := true } ∧
      t.port = { s.port with
        readoutTimer := none
        reception := match s.port.reception with
          | .receiving _ => .discarding
          | r => r } ∧
      (∀ c, s.seq.phase = .exposing → s.seq.current = some c → s.reading = none → s.engine.job = .none →
        t.ring = { s.ring with
          desc := s.ring.desc.set c.index { s.ring.desc[c.index] with
            state := .retired, outcome := some (.rejected .abandoned) }
          lastRetired := s.ring.desc[c.index].sub } ∧
        t.session.totals = { s.session.totals with rejectedAbandoned := s.session.totals.rejectedAbandoned + 1 }) ∧
      (∀ i, s.seq.phase ≠ .exposing → s.reading = some i → s.engine.job = .none →
        t.ring = { s.ring with
          desc := s.ring.desc.set i { s.ring.desc[i] with
            state := .retired, outcome := some (.rejected .abandoned) }
          lastRetired := s.ring.desc[i].sub } ∧
        t.session.totals = { s.session.totals with rejectedAbandoned := s.session.totals.rejectedAbandoned + 1 }) ∧
      (s.engine.previewPending = true → t.engine.previewPending = false ∧ t.results =
        { s.results with lastPreviewEnd := some .droppedHold }) ∧
      (s.session.state ≠ .draining → s.engine.stop = .none → s.engine.job ∈ [.planeClear, .finish, .preview] →
        t.engine = { s.engine with stop := .hold, previewPending := false }) ∧
      (∀ i aligned c, s.session.state ≠ .draining → s.engine.stop = .none → s.engine.job = .descriptor i →
        s.engine.work = .measuring aligned c →
        t.engine = { s.engine with stop := .hold, previewPending := false }) ∧
      (∀ i o aligned sky, s.session.state ≠ .draining → s.engine.stop = .none → s.engine.job = .descriptor i →
        s.engine.work ∈ [.merging o aligned sky, .darkMerging] → 0 < s.engine.tilesDone →
        t.engine = { s.engine with stop := .hold, previewPending := false } ∧ t.darks = s.darks) ∧
      (∀ i o aligned sky, s.session.state ≠ .draining → s.seq.phase ≠ .exposing → s.reading = none →
        s.engine.stop = .none → s.engine.job = .descriptor i →
        s.engine.work ∈ [.merging o aligned sky, .darkMerging] → s.engine.tilesDone = 0 →
        t.engine = { s.engine with
          job := .none, work := .none, tilesDone := 0, stop := .none, previewPending := false } ∧
        t.ring = { s.ring with
          desc := s.ring.desc.set i { s.ring.desc[i] with state := .retired, outcome := some .partialMerge }
          lastRetired := s.ring.desc[i].sub } ∧
        t.session.totals = s.session.totals ∧
        t.pLink.pendingSet.getLsbD 5 = true ∧ t.sLink.pendingSet.getLsbD 5 = true ∧
        (s.engine.work = .merging o aligned sky → t.darks = { s.darks with inUse := none }) ∧
        (∀ k, s.engine.work = .darkMerging → s.darks.mergeTarget = some k → t.darks = { s.darks with
          slots := s.darks.slots.set k DarkSlot.emptied, useOrder := s.darks.useOrder.erase k, mergeTarget := none })) ∧
      (s.engine.stop = .close → s.engine.job ≠ .none → t.engine.stop = .close ∧ t.engine.job = s.engine.job) ∧
      (∀ r b, s.pLink.response = some ⟨r, some b⟩ →
        t.pLink.response = some ⟨{ r with outcome := .held, fields := [], payload := [] }, none⟩) ∧
      t.dram = s.dram ∧ t.guidance = s.guidance ∧ t.tileMap = s.tileMap ∧
      t.pLink.pendingSet.getLsbD 14 = true ∧ t.sLink.pendingSet.getLsbD 14 = true ∧
      (s.power.state = .doze → t.pLink.pendingSet.getLsbD 12 = true ∧ t.sLink.pendingSet.getLsbD 12 = true)) ∧
  (∀ s : State, s.power.memory = .active → s.engine.stop = .hold → s.engine.tilesDone + 1 < s.tileCount →
    let granted : State := { s with engine := { s.engine with lastGranted := .engine } }
    (s.engine.job = .planeClear → ∃ t, exec .engineTileComplete s = .next t ∧ t = jobEnded { s with
      engine := { s.engine with lastGranted := .engine, clearPending := true }
      dram := { s.dram with sky := t.dram.sky, ground := t.dram.ground } }) ∧
    (s.engine.job = .finish → ∃ t, exec .engineTileComplete s = .next t ∧ t = jobEnded { s with
      engine := { s.engine with lastGranted := .engine, finishPending := true }
      dram := { s.dram with output := t.dram.output } }) ∧
    (∀ note, s.engine.job = .preview → s.engine.work = .preview note →
      ∃ t, exec .engineTileComplete s = .next t ∧ t = jobEnded { granted with
        results := { s.results with lastPreviewEnd := some .droppedHold }
        dram := { s.dram with preview := t.dram.preview } }) ∧
    (∀ i aligned c, s.engine.job = .descriptor i → s.engine.work = .measuring aligned c →
      exec .engineTileComplete s = .next (jobEnded { granted with
        ring := { s.ring with desc := s.ring.desc.set i { s.ring.desc[i] with state := .waiting } }
        darks := { s.darks with inUse := none } })) ∧
    (∀ i o aligned sky, s.engine.job = .descriptor i → s.engine.work = .merging o aligned sky →
      s.session.state ≠ .draining →
      ∃ t, exec .engineTileComplete s = .next t ∧ t.engine.job = .none ∧ t.engine.stop = .none ∧
        t.ring.desc[i].state = .retired ∧ t.ring.desc[i].outcome = some .partialMerge ∧
        t.darks = { s.darks with inUse := none } ∧ t.guidance = s.guidance ∧ t.seq = s.seq ∧ t.power = s.power) ∧
    (∀ i k, s.engine.job = .descriptor i → s.engine.work = .darkMerging → s.darks.mergeTarget = some k →
      s.session.state ≠ .draining →
      ∃ t, exec .engineTileComplete s = .next t ∧ t.engine.job = .none ∧ t.engine.stop = .none ∧
        t.ring.desc[i].state = .retired ∧ t.ring.desc[i].outcome = some .partialMerge ∧
        t.darks = { s.darks with
          slots := s.darks.slots.set k DarkSlot.emptied, useOrder := s.darks.useOrder.erase k, mergeTarget := none } ∧
        t.session.totals = s.session.totals ∧ t.guidance = s.guidance ∧ t.seq = s.seq ∧ t.power = s.power))

/-- The two ends of a hold: the supply return cancels the reserve and moves the part to ACTIVE; a session paused for
another cause stays so, and one paused (HOLD) takes up its running state and its cadence afresh where the active plan's
resume after hold is set, with its counters kept, and stays PAUSED where it is clear. The reserve expiry loses the
session, its ring, the library and the markers, makes a pending plan active, and moves the part to STANDBY (R18, R23,
R150, R151). Either end lets the sequencer debounce REMOTE again (R47); that a line that differs then has 20 ms to run
from the hold's end, and one that agrees none, is the model's reading (assumption 34). PF_WARN outside a hold and
without anything to keep changes its level alone (R148). -/
def Obligations.AHoldEndsByReturnOrExpiry : Prop :=
  (∀ s : State,
    (s.power.state = .hold → s.session.pauseCause ≠ some .hold → ∃ t, exec .supplyReturn s = .next t ∧
      t.power = { s.power with
        state := .active, changing := true, reserveTimer := none, lastWake := some .supplyReturn } ∧
      t.lines = { s.lines with pfWarn := false } ∧ t.session = s.session ∧ t.ring = s.ring ∧ t.engine = s.engine ∧
      t.dram = s.dram ∧ t.pLink.pendingSet.getLsbD 14 = true) ∧
    (s.power.state = .hold → s.power.reserveTimer = some s.seq.clock → s.session.state = .paused →
      s.session.pendingPlan = none → ∃ t, exec .reserveExpiry s = .next t ∧
        t.power = { s.power with state := .standby, changing := true, reserveTimer := none, waiting := false } ∧
        t.session = { s.session with state := .lost, pauseCause := none } ∧
        (∀ i : Fin 6, t.ring.desc[i] = Descriptor.freed) ∧ t.ring.lastOpened = s.ring.lastOpened ∧
        t.darks = DarkLibrary.emptied ∧ t.guidance = s.guidance ∧ t.results.output = .empty ∧
        t.results.preview = .empty ∧ t.engine.job = .none ∧ t.engine.clearPending = false ∧
        t.engine.finishPending = false ∧ t.engine.previewPending = false) ∧
    (s.lines.pfWarn = false → s.holdReady = false →
      exec (.pfWarnLineChange true) s = .next { s with lines := { s.lines with pfWarn := true } }) ∧
    (s.lines.pfWarn = true → s.power.state ≠ .hold →
      exec (.pfWarnLineChange false) s = .next { s with lines := { s.lines with pfWarn := false } })) ∧
  (∀ s : State, s.power.state = .hold →
    let debounce : Option Clock :=
      if s.lines.remoteLow = s.seq.remotePressed then none else some (s.seq.clock + 20#32)
    let r : State := raise .holdChanged { s with
      power := { s.power with state := .active, changing := true, reserveTimer := none, lastWake := some .supplyReturn }
      lines := { s.lines with pfWarn := false }, seq := { s.seq with debounceTimer := debounce } }
    let u : State := cadenceAfresh (raise .sessionState { r with session := { s.session with
      pauseCause := none, state := if s.session.referenceSet = true then .integrating else .referencing } })
    let met := s.plan.subLimit ≤ s.session.totals.subsOpened ∨
      (s.plan.durationLimit ≠ 0 ∧ 60000 * s.plan.durationLimit ≤ s.session.runTime)
    let hold := s.session.state = .paused ∧ s.session.pauseCause = some .hold
    (hold → s.plan.resumeAfterHold = true → (s.plan.autoFinish = false ∨ ¬met) →
      exec .supplyReturn s = .next u) ∧
    (hold → s.plan.resumeAfterHold = true → s.plan.autoFinish = true → met →
      exec .supplyReturn s = .next (enterDraining .alarm u)) ∧
    ((¬hold ∨ s.plan.resumeAfterHold = false) → exec .supplyReturn s = .next r) ∧
    (s.lines.pfWarn = true → exec (.pfWarnLineChange false) s = exec .supplyReturn s) ∧
    (∀ k, s.power.reserveTimer = some s.seq.clock → s.session.state ≠ .idle → s.session.state ≠ .lost →
      s.session.pendingPlan = some k → ∃ t, exec .reserveExpiry s = .next t ∧
        t.session = { s.session with state := .lost, pauseCause := none, activePlan := k, pendingPlan := none } ∧
        t.seq = { s.seq with debounceTimer := debounce } ∧
        t.pLink.pendingSet.getLsbD 1 = true ∧ t.sLink.pendingSet.getLsbD 1 = true ∧
        t.pLink.pendingSet.getLsbD 0 = true ∧ t.sLink.pendingSet.getLsbD 0 = true) ∧
    (s.power.reserveTimer = some s.seq.clock → s.session.state = .idle → ∃ t, exec .reserveExpiry s = .next t ∧
      t.session = s.session ∧ t.power = { s.power with
        state := .standby, changing := true, reserveTimer := none, waiting := false }))

/-- DOZE, its end and the waiting request: the entry to DOZE begins where its eight conditions hold, and where one of
them fails DOZE_ENTRY changes nothing (R140); the time remaining of condition 7 is that of R42; a transition completes
with its domains as its state names them and POWER_STATE raised, an entry to DOZE with a kept wake going on to ACTIVE,
and an entry to HOLD or STANDBY waiting for the engine to end its job, and the return from HOLD for the engine to have
stopped, where a wake from DOZE or STANDBY waits for nothing of the engine, also where it turned an entry to STANDBY
round; a waiting request is carried out with the session IDLE or LOST (R139 to R141, R144, R145, R150). That a move to
ACTIVE comes from HOLD is told by its wake cause, SUPPLY_RETURN, by inference (assumption 20). That the memory reads as
cleared after STANDBY is the model's choice (assumption 5), and that a kept wake is taken at the entry's completion,
before a hold that is due then, and that the time remaining is unbounded outside a running session, its readings
(assumptions 32 and 38). That the engine domain goes off at the completion of an entry to STANDBY or HOLD, and not from
the end of the engine's job on, is its choice (assumption 42). -/
def Obligations.PowerTransitionsBeginAndComplete : Prop :=
  ∀ s : State,
    TimeRemainingRight s ∧
    (let idleEngine := s.engine.job = .none ∧ s.engine.stop = .none ∧ s.engine.clearPending = false ∧
        s.engine.finishPending = false ∧ s.engine.previewPending = false ∧ ∀ i : Fin 6, s.ring.desc[i].state ≠ .waiting
      let due := s.power.state = .active ∧ s.power.changing = false ∧ s.plan.autoDoze = true ∧
        s.power.stayAwake = false ∧ idleEngine ∧ (∀ r b, s.pLink.response ≠ some ⟨r, some b⟩) ∧
        (∀ i : Fin 6, s.ring.desc[i].state ≠ .reading) ∧ (∀ n, s.timeRemaining = some n → 250 < n) ∧
        ¬(s.power.waiting = true ∧ (s.session.state = .idle ∨ s.session.state = .lost))
      (due → exec .dozeEntry s =
        .next { s with power := { s.power with state := .doze, changing := true, engineOn := false } }) ∧
      (¬due → exec .dozeEntry s = .next s)) ∧
    (s.power.changing = true → s.power.state = .active →
      (s.power.lastWake ≠ some .supplyReturn ∨ s.engine.stop = .none) →
      exec .powerTransitionComplete s = .next (raise .powerState { s with
        power := { s.power with changing := false, memory := .active, engineOn := true } })) ∧
    (s.power.changing = true → s.power.state = .active → s.power.lastWake = some .supplyReturn →
      s.engine.stop ≠ .none → exec .powerTransitionComplete s = .next s) ∧
    (s.power.changing = false → exec .powerTransitionComplete s = .next s) ∧
    (s.power.changing = true → s.power.state = .doze → s.power.wakePending = false →
      exec .powerTransitionComplete s = .next (raise .powerState { s with
        power := { s.power with changing := false, memory := .selfRefresh, engineOn := false } })) ∧
    (s.power.changing = true → s.power.state = .doze → s.power.wakePending = true →
      exec .powerTransitionComplete s = .next (raise .powerState { s with
        power := { s.power with
          state := .active, changing := true, memory := .selfRefresh, engineOn := false, wakePending := false } })) ∧
    (s.power.changing = true → s.power.state = .hold → s.engine.job = .none →
      exec .powerTransitionComplete s = .next (raise .powerState { s with
        power := { s.power with changing := false, memory := .selfRefresh, engineOn := false } })) ∧
    (s.power.changing = true → (s.power.state = .hold ∨ s.power.state = .standby) → s.engine.job ≠ .none →
      exec .powerTransitionComplete s = .next s) ∧
    (s.power.changing = true → s.power.state = .standby → s.engine.job = .none →
      exec .powerTransitionComplete s = .next (raise .powerState { s with
        power := { s.power with changing := false, memory := .off, engineOn := false }, dram := Dram.cleared })) ∧
    (s.power.waiting = true → s.power.state = .active → s.power.changing = false →
      (s.session.state = .idle ∨ s.session.state = .lost) →
      exec .waitingRequestCarriedOut s = .next { s with
        power := { s.power with state := .standby, changing := true, waiting := false }
        darks := DarkLibrary.emptied
        results := { s.results with output := .empty, preview := .empty } })

/-! ## The finished image -/

/-- The composite value of a channel and the output value (R127): SKY takes the sky's, GROUND the ground's, BLEND the
weighted mean of both rounded half away from zero, and the output is the composite less 4,096 plus the pedestal, clamped
to 16 bits. A BLEND tile with weight 16 gives the sky value, one with weight 0 the ground value, and where both are
alike that value whatever the weight. A plane with nothing of its own for a cell takes the other plane's value, and
4,096 where neither has any (R126). A tile of a finish writes to each pixel of its cells the output value of the channel
that the Bayer phase puts there, and to no other pixel (R51, R128). A tile of a preview writes its 8 × 8 preview pixels,
each the sum A over its 16 cells' composites divided by 64, rounded half away from zero and clamped (R134, R135). -/
def Obligations.CompositesFollowTheTileClass : Prop :=
  (∀ (w sky ground : Nat), composite ⟨.sky, w⟩ (sky, ground) = sky ∧ composite ⟨.ground, w⟩ (sky, ground) = ground) ∧
  (∀ (w sky ground : Nat), w ≤ 16 →
    composite ⟨.blend, w⟩ (sky, ground) = (w * sky + (16 - w) * ground + 8) / 16) ∧
  (∀ sky ground : Nat, composite ⟨.blend, 16⟩ (sky, ground) = sky ∧ composite ⟨.blend, 0⟩ (sky, ground) = ground) ∧
  (∀ w v : Nat, w ≤ 16 → composite ⟨.blend, w⟩ (v, v) = v) ∧
  (∀ (w groundCount groundSum skySum : Nat), w ≤ 16 → 0 < groundCount →
    composite ⟨.blend, w⟩ (channelValues 0 skySum groundCount groundSum) = planeValue groundCount groundSum) ∧
  (∀ pedestal comp : Nat, (outputValue pedestal comp : Int) = max 0 (min ((comp : Int) - 4096 + pedestal) 65535)) ∧
  (∀ n m a b : Nat, 0 < n → 0 < m →
    planeValue n a = (8 * a + n) / (2 * n) ∧
    channelValues n a m b = (planeValue n a, planeValue m b) ∧
    channelValues 0 a m b = (planeValue m b, planeValue m b) ∧
    channelValues n a 0 b = (planeValue n a, planeValue n a) ∧ channelValues 0 a 0 b = (4096, 4096)) ∧
  (∀ (p : Planes) (i j : Nat),
    let sky := regionRead CellRecord.zero p.sky (cellIndex p.width i j)
    let ground := regionRead CellRecord.zero p.ground (cellIndex p.width i j)
    ∀ ch ∈ [Quad.r, Quad.ga, Quad.gb, Quad.b], ch (p.compositeAt i j) =
      composite (cellTile p.width p.tiles i j) (channelValues sky.count (ch sky.sum) ground.count (ch ground.sum))) ∧
  (∀ s : State, s.powered = true → s.engine.stop = .none → s.engine.tilesDone < s.tileCount → s.memoryWf = true →
    64 ≤ s.port.width →
    let counted := { s.engine with tilesDone := s.engine.tilesDone + 1, lastGranted := .engine }
    let w := s.port.width
    let tile := s.engine.tilesDone
    (s.engine.job = .finish → s.engine.work = .none → ∃ t, exec .engineTileComplete s = .next t ∧
      t = { s with engine := counted, dram := { s.dram with output := t.dram.output } } ∧
      (∀ c ∈ tileCells w tile,
        let v := (s.planes.compositeAt c.1 c.2).map (outputValue s.results.pedestal)
        let pixel := fun (o : Nat × Nat) => regionRead 0 t.dram.output (outputIndex w (2 * c.1 + o.1) (2 * c.2 + o.2))
        let places := bayerPlaces s.port.bayer
        pixel places.1 = v.r ∧ pixel places.2.1 = v.ga ∧ pixel places.2.2.1 = v.gb ∧ pixel places.2.2.2 = v.b) ∧
      (∀ k, (∀ c ∈ tileCells w tile, ∀ dx dy : Nat, dx < 2 → dy < 2 → outputIndex w (2 * c.1 + dx) (2 * c.2 + dy) ≠ k) →
        regionRead 0 t.dram.output k = regionRead 0 s.dram.output k)) ∧
    (∀ note, s.engine.job = .preview → s.engine.work = .preview note → ∃ t, exec .engineTileComplete s = .next t ∧
      t = { s with engine := counted, dram := { s.dram with preview := t.dram.preview } } ∧
      (∀ du dv : Nat, du < 8 → dv < 8 →
        let u := 8 * (tile % (w / 64)) + du
        let v := 8 * (tile / (w / 64)) + dv
        let terms : List Int := (List.range 4).flatMap fun dj => (List.range 4).flatMap fun di =>
          [Quad.r, Quad.ga, Quad.gb, Quad.b].map fun ch =>
            (ch (s.planes.compositeAt (4 * u + di) (4 * v + dj)) : Int) - 4096 + note.pedestal
        ((regionRead 0 t.dram.preview (previewIndex w u v) : Nat) : Int) = max 0 (min (roundDiv terms.sum 64) 65535)) ∧
      (∀ k, (∀ du dv : Nat, du < 8 → dv < 8 →
          previewIndex w (8 * (tile % (w / 64)) + du) (8 * (tile / (w / 64)) + dv) ≠ k) →
        regionRead 0 t.dram.preview k = regionRead 0 s.dram.preview k)))

/-- The output stream (R129): 2 · W · H bytes, output pixel (x, y) in the two bytes at offset 2 · (y · W + x), its low
byte first, rows from top to bottom; every output value is 16 bits; for the reset geometry 48,513,024 bytes. -/
def Obligations.TheOutputStreamIsLaidOutByRows : Prop :=
  (∀ s : State, s.streamSize .output = 2 * s.port.width * s.port.height) ∧
  (∀ (m : Region Nat) (w x y : Nat), regionRead 0 m (outputIndex w x y) < 65536 →
    (streamByte m (2 * (y * w + x))).toNat + 256 * (streamByte m (2 * (y * w + x) + 1)).toNat =
      regionRead 0 m (outputIndex w x y)) ∧
  (∀ pedestal comp : Nat, outputValue pedestal comp ≤ 65535) ∧
  (∀ w h x y x' y' : Nat, x < w → x' < w → y < h → y' < h →
    outputIndex w x y < w * h ∧ (outputIndex w x y = outputIndex w x' y' → x = x' ∧ y = y')) ∧
  State.reset.port.width * State.reset.port.height = 24256512 ∧ State.reset.streamSize .output = 48513024

/-- The temperature bands (R91): the table's rows, the range of each band from 1 to 61, and the two open bands. The
calibrated value of each channel of each cell (R101): the raw value less the slot's mean rounded half up, or less the
black level, plus 1,024, clamped to 14 bits; the luminance of a cell is the sum of the four less 4,096, at least 0
(R79). -/
def Obligations.TemperaturesFallIntoTheirBands : Prop :=
  (∀ (theta : Int) (k : Nat), 1 ≤ k → k ≤ 61 →
    (bandOf theta = k ↔ 16 * (k : Int) - 320 ≤ theta ∧ theta ≤ 16 * (k : Int) - 305)) ∧
  (∀ theta : Int, bandOf theta = 0 ↔ theta < -304) ∧ (∀ theta : Int, bandOf theta = 62 ↔ 672 ≤ theta) ∧
  bandOf (-400) = 0 ∧ bandOf (-330) = 0 ∧ bandOf (-320) = 0 ∧ bandOf 0 = 20 ∧ bandOf 97 = 26 ∧ bandOf 110 = 26 ∧
  bandOf 92 = 25 ∧ bandOf 672 = 62 ∧ bandOf 2047 = 62 ∧
  (∀ (d : Descriptor) (theta : Int), d.temperature = some theta → d.band = bandOf theta) ∧
  (∀ (l : Light) (i j : Nat),
    let raw := rawQuad l.bayer l.raw i j
    (∀ count sums, l.dark = some (count, sums) → 0 < count → ∀ ch ∈ [Quad.r, Quad.ga, Quad.gb, Quad.b],
      let sum := ch (regionRead Quad.zero sums (cellIndex l.width i j))
      (ch (l.cell i j) : Int) = max 0 (min ((ch raw : Int) - ((sum + count / 2) / count : Nat) + 1024) 16383)) ∧
    (l.dark = none → ∀ ch ∈ [Quad.r, Quad.ga, Quad.gb, Quad.b],
      (ch (l.cell i j) : Int) = max 0 (min ((ch raw : Int) - l.blackLevel + 1024) 16383)) ∧
    l.luminance i j = (l.cell i j).r + (l.cell i j).ga + (l.cell i j).gb + (l.cell i j).b - 4096) ∧
  (∀ (s : State) (i : Fin 6) (k : Fin 4),
    (s.lightOf i (some k)).dark = some (s.darks.slots[k].count, s.dram.darkSums[k]) ∧ (s.lightOf i none).dark = none ∧
    (s.lightOf i (some k)).raw = s.dram.staging[i] ∧
    (s.lightOf i none).blackLevel = s.ring.desc[i].snapshot.blackLevel)
end

