-- ==== Sys2Proof/Laws/State.lean ====
section
/-! SUPPORT. What each update of a component of the state leaves alone: one lemma a component an update. -/

namespace Sys2Proof.Machine

@[simp] theorem State.onSession_session (s : State) (f : Session → Session) : (s.onSession f).session = f s.session := rfl
@[simp] theorem State.onSession_seq (s : State) (f : Session → Session) : (s.onSession f).seq = s.seq := rfl
@[simp] theorem State.onSession_port (s : State) (f : Session → Session) : (s.onSession f).port = s.port := rfl
@[simp] theorem State.onSession_ring (s : State) (f : Session → Session) : (s.onSession f).ring = s.ring := rfl
@[simp] theorem State.onSession_guidance (s : State) (f : Session → Session) : (s.onSession f).guidance = s.guidance := rfl
@[simp] theorem State.onSession_darks (s : State) (f : Session → Session) : (s.onSession f).darks = s.darks := rfl
@[simp] theorem State.onSession_tileMap (s : State) (f : Session → Session) : (s.onSession f).tileMap = s.tileMap := rfl
@[simp] theorem State.onSession_engine (s : State) (f : Session → Session) : (s.onSession f).engine = s.engine := rfl
@[simp] theorem State.onSession_results (s : State) (f : Session → Session) : (s.onSession f).results = s.results := rfl
@[simp] theorem State.onSession_power (s : State) (f : Session → Session) : (s.onSession f).power = s.power := rfl
@[simp] theorem State.onSession_pLink (s : State) (f : Session → Session) : (s.onSession f).pLink = s.pLink := rfl
@[simp] theorem State.onSession_sLink (s : State) (f : Session → Session) : (s.onSession f).sLink = s.sLink := rfl
@[simp] theorem State.onSession_lines (s : State) (f : Session → Session) : (s.onSession f).lines = s.lines := rfl
@[simp] theorem State.onSession_dram (s : State) (f : Session → Session) : (s.onSession f).dram = s.dram := rfl
@[simp] theorem State.onSession_free (s : State) (f : Session → Session) : (s.onSession f).free = s.free := rfl
@[simp] theorem State.onSession_pending (s : State) (f : Session → Session) : (s.onSession f).pending = s.pending := rfl

@[simp] theorem State.onSeq_session (s : State) (f : Sequencer → Sequencer) : (s.onSeq f).session = s.session := rfl
@[simp] theorem State.onSeq_seq (s : State) (f : Sequencer → Sequencer) : (s.onSeq f).seq = f s.seq := rfl
@[simp] theorem State.onSeq_port (s : State) (f : Sequencer → Sequencer) : (s.onSeq f).port = s.port := rfl
@[simp] theorem State.onSeq_ring (s : State) (f : Sequencer → Sequencer) : (s.onSeq f).ring = s.ring := rfl
@[simp] theorem State.onSeq_guidance (s : State) (f : Sequencer → Sequencer) : (s.onSeq f).guidance = s.guidance := rfl
@[simp] theorem State.onSeq_darks (s : State) (f : Sequencer → Sequencer) : (s.onSeq f).darks = s.darks := rfl
@[simp] theorem State.onSeq_tileMap (s : State) (f : Sequencer → Sequencer) : (s.onSeq f).tileMap = s.tileMap := rfl
@[simp] theorem State.onSeq_engine (s : State) (f : Sequencer → Sequencer) : (s.onSeq f).engine = s.engine := rfl
@[simp] theorem State.onSeq_results (s : State) (f : Sequencer → Sequencer) : (s.onSeq f).results = s.results := rfl
@[simp] theorem State.onSeq_power (s : State) (f : Sequencer → Sequencer) : (s.onSeq f).power = s.power := rfl
@[simp] theorem State.onSeq_pLink (s : State) (f : Sequencer → Sequencer) : (s.onSeq f).pLink = s.pLink := rfl
@[simp] theorem State.onSeq_sLink (s : State) (f : Sequencer → Sequencer) : (s.onSeq f).sLink = s.sLink := rfl
@[simp] theorem State.onSeq_lines (s : State) (f : Sequencer → Sequencer) : (s.onSeq f).lines = s.lines := rfl
@[simp] theorem State.onSeq_dram (s : State) (f : Sequencer → Sequencer) : (s.onSeq f).dram = s.dram := rfl
@[simp] theorem State.onSeq_free (s : State) (f : Sequencer → Sequencer) : (s.onSeq f).free = s.free := rfl
@[simp] theorem State.onSeq_pending (s : State) (f : Sequencer → Sequencer) : (s.onSeq f).pending = s.pending := rfl

@[simp] theorem State.onPort_session (s : State) (f : SensorPort → SensorPort) : (s.onPort f).session = s.session := rfl
@[simp] theorem State.onPort_seq (s : State) (f : SensorPort → SensorPort) : (s.onPort f).seq = s.seq := rfl
@[simp] theorem State.onPort_port (s : State) (f : SensorPort → SensorPort) : (s.onPort f).port = f s.port := rfl
@[simp] theorem State.onPort_ring (s : State) (f : SensorPort → SensorPort) : (s.onPort f).ring = s.ring := rfl
@[simp] theorem State.onPort_guidance (s : State) (f : SensorPort → SensorPort) : (s.onPort f).guidance = s.guidance := rfl
@[simp] theorem State.onPort_darks (s : State) (f : SensorPort → SensorPort) : (s.onPort f).darks = s.darks := rfl
@[simp] theorem State.onPort_tileMap (s : State) (f : SensorPort → SensorPort) : (s.onPort f).tileMap = s.tileMap := rfl
@[simp] theorem State.onPort_engine (s : State) (f : SensorPort → SensorPort) : (s.onPort f).engine = s.engine := rfl
@[simp] theorem State.onPort_results (s : State) (f : SensorPort → SensorPort) : (s.onPort f).results = s.results := rfl
@[simp] theorem State.onPort_power (s : State) (f : SensorPort → SensorPort) : (s.onPort f).power = s.power := rfl
@[simp] theorem State.onPort_pLink (s : State) (f : SensorPort → SensorPort) : (s.onPort f).pLink = s.pLink := rfl
@[simp] theorem State.onPort_sLink (s : State) (f : SensorPort → SensorPort) : (s.onPort f).sLink = s.sLink := rfl
@[simp] theorem State.onPort_lines (s : State) (f : SensorPort → SensorPort) : (s.onPort f).lines = s.lines := rfl
@[simp] theorem State.onPort_dram (s : State) (f : SensorPort → SensorPort) : (s.onPort f).dram = s.dram := rfl
@[simp] theorem State.onPort_free (s : State) (f : SensorPort → SensorPort) : (s.onPort f).free = s.free := rfl
@[simp] theorem State.onPort_pending (s : State) (f : SensorPort → SensorPort) : (s.onPort f).pending = s.pending := rfl

@[simp] theorem State.onRing_session (s : State) (f : Ring → Ring) : (s.onRing f).session = s.session := rfl
@[simp] theorem State.onRing_seq (s : State) (f : Ring → Ring) : (s.onRing f).seq = s.seq := rfl
@[simp] theorem State.onRing_port (s : State) (f : Ring → Ring) : (s.onRing f).port = s.port := rfl
@[simp] theorem State.onRing_ring (s : State) (f : Ring → Ring) : (s.onRing f).ring = f s.ring := rfl
@[simp] theorem State.onRing_guidance (s : State) (f : Ring → Ring) : (s.onRing f).guidance = s.guidance := rfl
@[simp] theorem State.onRing_darks (s : State) (f : Ring → Ring) : (s.onRing f).darks = s.darks := rfl
@[simp] theorem State.onRing_tileMap (s : State) (f : Ring → Ring) : (s.onRing f).tileMap = s.tileMap := rfl
@[simp] theorem State.onRing_engine (s : State) (f : Ring → Ring) : (s.onRing f).engine = s.engine := rfl
@[simp] theorem State.onRing_results (s : State) (f : Ring → Ring) : (s.onRing f).results = s.results := rfl
@[simp] theorem State.onRing_power (s : State) (f : Ring → Ring) : (s.onRing f).power = s.power := rfl
@[simp] theorem State.onRing_pLink (s : State) (f : Ring → Ring) : (s.onRing f).pLink = s.pLink := rfl
@[simp] theorem State.onRing_sLink (s : State) (f : Ring → Ring) : (s.onRing f).sLink = s.sLink := rfl
@[simp] theorem State.onRing_lines (s : State) (f : Ring → Ring) : (s.onRing f).lines = s.lines := rfl
@[simp] theorem State.onRing_dram (s : State) (f : Ring → Ring) : (s.onRing f).dram = s.dram := rfl
@[simp] theorem State.onRing_free (s : State) (f : Ring → Ring) : (s.onRing f).free = s.free := rfl
@[simp] theorem State.onRing_pending (s : State) (f : Ring → Ring) : (s.onRing f).pending = s.pending := rfl

@[simp] theorem State.onGuidance_session (s : State) (f : Guidance → Guidance) : (s.onGuidance f).session = s.session := rfl
@[simp] theorem State.onGuidance_seq (s : State) (f : Guidance → Guidance) : (s.onGuidance f).seq = s.seq := rfl
@[simp] theorem State.onGuidance_port (s : State) (f : Guidance → Guidance) : (s.onGuidance f).port = s.port := rfl
@[simp] theorem State.onGuidance_ring (s : State) (f : Guidance → Guidance) : (s.onGuidance f).ring = s.ring := rfl
@[simp] theorem State.onGuidance_guidance (s : State) (f : Guidance → Guidance) : (s.onGuidance f).guidance = f s.guidance := rfl
@[simp] theorem State.onGuidance_darks (s : State) (f : Guidance → Guidance) : (s.onGuidance f).darks = s.darks := rfl
@[simp] theorem State.onGuidance_tileMap (s : State) (f : Guidance → Guidance) : (s.onGuidance f).tileMap = s.tileMap := rfl
@[simp] theorem State.onGuidance_engine (s : State) (f : Guidance → Guidance) : (s.onGuidance f).engine = s.engine := rfl
@[simp] theorem State.onGuidance_results (s : State) (f : Guidance → Guidance) : (s.onGuidance f).results = s.results := rfl
@[simp] theorem State.onGuidance_power (s : State) (f : Guidance → Guidance) : (s.onGuidance f).power = s.power := rfl
@[simp] theorem State.onGuidance_pLink (s : State) (f : Guidance → Guidance) : (s.onGuidance f).pLink = s.pLink := rfl
@[simp] theorem State.onGuidance_sLink (s : State) (f : Guidance → Guidance) : (s.onGuidance f).sLink = s.sLink := rfl
@[simp] theorem State.onGuidance_lines (s : State) (f : Guidance → Guidance) : (s.onGuidance f).lines = s.lines := rfl
@[simp] theorem State.onGuidance_dram (s : State) (f : Guidance → Guidance) : (s.onGuidance f).dram = s.dram := rfl
@[simp] theorem State.onGuidance_free (s : State) (f : Guidance → Guidance) : (s.onGuidance f).free = s.free := rfl
@[simp] theorem State.onGuidance_pending (s : State) (f : Guidance → Guidance) : (s.onGuidance f).pending = s.pending := rfl

@[simp] theorem State.onDarks_session (s : State) (f : DarkLibrary → DarkLibrary) : (s.onDarks f).session = s.session := rfl
@[simp] theorem State.onDarks_seq (s : State) (f : DarkLibrary → DarkLibrary) : (s.onDarks f).seq = s.seq := rfl
@[simp] theorem State.onDarks_port (s : State) (f : DarkLibrary → DarkLibrary) : (s.onDarks f).port = s.port := rfl
@[simp] theorem State.onDarks_ring (s : State) (f : DarkLibrary → DarkLibrary) : (s.onDarks f).ring = s.ring := rfl
@[simp] theorem State.onDarks_guidance (s : State) (f : DarkLibrary → DarkLibrary) : (s.onDarks f).guidance = s.guidance := rfl
@[simp] theorem State.onDarks_darks (s : State) (f : DarkLibrary → DarkLibrary) : (s.onDarks f).darks = f s.darks := rfl
@[simp] theorem State.onDarks_tileMap (s : State) (f : DarkLibrary → DarkLibrary) : (s.onDarks f).tileMap = s.tileMap := rfl
@[simp] theorem State.onDarks_engine (s : State) (f : DarkLibrary → DarkLibrary) : (s.onDarks f).engine = s.engine := rfl
@[simp] theorem State.onDarks_results (s : State) (f : DarkLibrary → DarkLibrary) : (s.onDarks f).results = s.results := rfl
@[simp] theorem State.onDarks_power (s : State) (f : DarkLibrary → DarkLibrary) : (s.onDarks f).power = s.power := rfl
@[simp] theorem State.onDarks_pLink (s : State) (f : DarkLibrary → DarkLibrary) : (s.onDarks f).pLink = s.pLink := rfl
@[simp] theorem State.onDarks_sLink (s : State) (f : DarkLibrary → DarkLibrary) : (s.onDarks f).sLink = s.sLink := rfl
@[simp] theorem State.onDarks_lines (s : State) (f : DarkLibrary → DarkLibrary) : (s.onDarks f).lines = s.lines := rfl
@[simp] theorem State.onDarks_dram (s : State) (f : DarkLibrary → DarkLibrary) : (s.onDarks f).dram = s.dram := rfl
@[simp] theorem State.onDarks_free (s : State) (f : DarkLibrary → DarkLibrary) : (s.onDarks f).free = s.free := rfl
@[simp] theorem State.onDarks_pending (s : State) (f : DarkLibrary → DarkLibrary) : (s.onDarks f).pending = s.pending := rfl

@[simp] theorem State.onTileMap_session (s : State) (f : Region TileEntry → Region TileEntry) : (s.onTileMap f).session = s.session := rfl
@[simp] theorem State.onTileMap_seq (s : State) (f : Region TileEntry → Region TileEntry) : (s.onTileMap f).seq = s.seq := rfl
@[simp] theorem State.onTileMap_port (s : State) (f : Region TileEntry → Region TileEntry) : (s.onTileMap f).port = s.port := rfl
@[simp] theorem State.onTileMap_ring (s : State) (f : Region TileEntry → Region TileEntry) : (s.onTileMap f).ring = s.ring := rfl
@[simp] theorem State.onTileMap_guidance (s : State) (f : Region TileEntry → Region TileEntry) : (s.onTileMap f).guidance = s.guidance := rfl
@[simp] theorem State.onTileMap_darks (s : State) (f : Region TileEntry → Region TileEntry) : (s.onTileMap f).darks = s.darks := rfl
@[simp] theorem State.onTileMap_tileMap (s : State) (f : Region TileEntry → Region TileEntry) : (s.onTileMap f).tileMap = f s.tileMap := rfl
@[simp] theorem State.onTileMap_engine (s : State) (f : Region TileEntry → Region TileEntry) : (s.onTileMap f).engine = s.engine := rfl
@[simp] theorem State.onTileMap_results (s : State) (f : Region TileEntry → Region TileEntry) : (s.onTileMap f).results = s.results := rfl
@[simp] theorem State.onTileMap_power (s : State) (f : Region TileEntry → Region TileEntry) : (s.onTileMap f).power = s.power := rfl
@[simp] theorem State.onTileMap_pLink (s : State) (f : Region TileEntry → Region TileEntry) : (s.onTileMap f).pLink = s.pLink := rfl
@[simp] theorem State.onTileMap_sLink (s : State) (f : Region TileEntry → Region TileEntry) : (s.onTileMap f).sLink = s.sLink := rfl
@[simp] theorem State.onTileMap_lines (s : State) (f : Region TileEntry → Region TileEntry) : (s.onTileMap f).lines = s.lines := rfl
@[simp] theorem State.onTileMap_dram (s : State) (f : Region TileEntry → Region TileEntry) : (s.onTileMap f).dram = s.dram := rfl
@[simp] theorem State.onTileMap_free (s : State) (f : Region TileEntry → Region TileEntry) : (s.onTileMap f).free = s.free := rfl
@[simp] theorem State.onTileMap_pending (s : State) (f : Region TileEntry → Region TileEntry) : (s.onTileMap f).pending = s.pending := rfl

@[simp] theorem State.onEngine_session (s : State) (f : Engine → Engine) : (s.onEngine f).session = s.session := rfl
@[simp] theorem State.onEngine_seq (s : State) (f : Engine → Engine) : (s.onEngine f).seq = s.seq := rfl
@[simp] theorem State.onEngine_port (s : State) (f : Engine → Engine) : (s.onEngine f).port = s.port := rfl
@[simp] theorem State.onEngine_ring (s : State) (f : Engine → Engine) : (s.onEngine f).ring = s.ring := rfl
@[simp] theorem State.onEngine_guidance (s : State) (f : Engine → Engine) : (s.onEngine f).guidance = s.guidance := rfl
@[simp] theorem State.onEngine_darks (s : State) (f : Engine → Engine) : (s.onEngine f).darks = s.darks := rfl
@[simp] theorem State.onEngine_tileMap (s : State) (f : Engine → Engine) : (s.onEngine f).tileMap = s.tileMap := rfl
@[simp] theorem State.onEngine_engine (s : State) (f : Engine → Engine) : (s.onEngine f).engine = f s.engine := rfl
@[simp] theorem State.onEngine_results (s : State) (f : Engine → Engine) : (s.onEngine f).results = s.results := rfl
@[simp] theorem State.onEngine_power (s : State) (f : Engine → Engine) : (s.onEngine f).power = s.power := rfl
@[simp] theorem State.onEngine_pLink (s : State) (f : Engine → Engine) : (s.onEngine f).pLink = s.pLink := rfl
@[simp] theorem State.onEngine_sLink (s : State) (f : Engine → Engine) : (s.onEngine f).sLink = s.sLink := rfl
@[simp] theorem State.onEngine_lines (s : State) (f : Engine → Engine) : (s.onEngine f).lines = s.lines := rfl
@[simp] theorem State.onEngine_dram (s : State) (f : Engine → Engine) : (s.onEngine f).dram = s.dram := rfl
@[simp] theorem State.onEngine_free (s : State) (f : Engine → Engine) : (s.onEngine f).free = s.free := rfl
@[simp] theorem State.onEngine_pending (s : State) (f : Engine → Engine) : (s.onEngine f).pending = s.pending := rfl

@[simp] theorem State.onResults_session (s : State) (f : Results → Results) : (s.onResults f).session = s.session := rfl
@[simp] theorem State.onResults_seq (s : State) (f : Results → Results) : (s.onResults f).seq = s.seq := rfl
@[simp] theorem State.onResults_port (s : State) (f : Results → Results) : (s.onResults f).port = s.port := rfl
@[simp] theorem State.onResults_ring (s : State) (f : Results → Results) : (s.onResults f).ring = s.ring := rfl
@[simp] theorem State.onResults_guidance (s : State) (f : Results → Results) : (s.onResults f).guidance = s.guidance := rfl
@[simp] theorem State.onResults_darks (s : State) (f : Results → Results) : (s.onResults f).darks = s.darks := rfl
@[simp] theorem State.onResults_tileMap (s : State) (f : Results → Results) : (s.onResults f).tileMap = s.tileMap := rfl
@[simp] theorem State.onResults_engine (s : State) (f : Results → Results) : (s.onResults f).engine = s.engine := rfl
@[simp] theorem State.onResults_results (s : State) (f : Results → Results) : (s.onResults f).results = f s.results := rfl
@[simp] theorem State.onResults_power (s : State) (f : Results → Results) : (s.onResults f).power = s.power := rfl
@[simp] theorem State.onResults_pLink (s : State) (f : Results → Results) : (s.onResults f).pLink = s.pLink := rfl
@[simp] theorem State.onResults_sLink (s : State) (f : Results → Results) : (s.onResults f).sLink = s.sLink := rfl
@[simp] theorem State.onResults_lines (s : State) (f : Results → Results) : (s.onResults f).lines = s.lines := rfl
@[simp] theorem State.onResults_dram (s : State) (f : Results → Results) : (s.onResults f).dram = s.dram := rfl
@[simp] theorem State.onResults_free (s : State) (f : Results → Results) : (s.onResults f).free = s.free := rfl
@[simp] theorem State.onResults_pending (s : State) (f : Results → Results) : (s.onResults f).pending = s.pending := rfl

@[simp] theorem State.onPower_session (s : State) (f : Power → Power) : (s.onPower f).session = s.session := rfl
@[simp] theorem State.onPower_seq (s : State) (f : Power → Power) : (s.onPower f).seq = s.seq := rfl
@[simp] theorem State.onPower_port (s : State) (f : Power → Power) : (s.onPower f).port = s.port := rfl
@[simp] theorem State.onPower_ring (s : State) (f : Power → Power) : (s.onPower f).ring = s.ring := rfl
@[simp] theorem State.onPower_guidance (s : State) (f : Power → Power) : (s.onPower f).guidance = s.guidance := rfl
@[simp] theorem State.onPower_darks (s : State) (f : Power → Power) : (s.onPower f).darks = s.darks := rfl
@[simp] theorem State.onPower_tileMap (s : State) (f : Power → Power) : (s.onPower f).tileMap = s.tileMap := rfl
@[simp] theorem State.onPower_engine (s : State) (f : Power → Power) : (s.onPower f).engine = s.engine := rfl
@[simp] theorem State.onPower_results (s : State) (f : Power → Power) : (s.onPower f).results = s.results := rfl
@[simp] theorem State.onPower_power (s : State) (f : Power → Power) : (s.onPower f).power = f s.power := rfl
@[simp] theorem State.onPower_pLink (s : State) (f : Power → Power) : (s.onPower f).pLink = s.pLink := rfl
@[simp] theorem State.onPower_sLink (s : State) (f : Power → Power) : (s.onPower f).sLink = s.sLink := rfl
@[simp] theorem State.onPower_lines (s : State) (f : Power → Power) : (s.onPower f).lines = s.lines := rfl
@[simp] theorem State.onPower_dram (s : State) (f : Power → Power) : (s.onPower f).dram = s.dram := rfl
@[simp] theorem State.onPower_free (s : State) (f : Power → Power) : (s.onPower f).free = s.free := rfl
@[simp] theorem State.onPower_pending (s : State) (f : Power → Power) : (s.onPower f).pending = s.pending := rfl

@[simp] theorem State.onPLink_session (s : State) (f : LinkState → LinkState) : (s.onPLink f).session = s.session := rfl
@[simp] theorem State.onPLink_seq (s : State) (f : LinkState → LinkState) : (s.onPLink f).seq = s.seq := rfl
@[simp] theorem State.onPLink_port (s : State) (f : LinkState → LinkState) : (s.onPLink f).port = s.port := rfl
@[simp] theorem State.onPLink_ring (s : State) (f : LinkState → LinkState) : (s.onPLink f).ring = s.ring := rfl
@[simp] theorem State.onPLink_guidance (s : State) (f : LinkState → LinkState) : (s.onPLink f).guidance = s.guidance := rfl
@[simp] theorem State.onPLink_darks (s : State) (f : LinkState → LinkState) : (s.onPLink f).darks = s.darks := rfl
@[simp] theorem State.onPLink_tileMap (s : State) (f : LinkState → LinkState) : (s.onPLink f).tileMap = s.tileMap := rfl
@[simp] theorem State.onPLink_engine (s : State) (f : LinkState → LinkState) : (s.onPLink f).engine = s.engine := rfl
@[simp] theorem State.onPLink_results (s : State) (f : LinkState → LinkState) : (s.onPLink f).results = s.results := rfl
@[simp] theorem State.onPLink_power (s : State) (f : LinkState → LinkState) : (s.onPLink f).power = s.power := rfl
@[simp] theorem State.onPLink_pLink (s : State) (f : LinkState → LinkState) : (s.onPLink f).pLink = f s.pLink := rfl
@[simp] theorem State.onPLink_sLink (s : State) (f : LinkState → LinkState) : (s.onPLink f).sLink = s.sLink := rfl
@[simp] theorem State.onPLink_lines (s : State) (f : LinkState → LinkState) : (s.onPLink f).lines = s.lines := rfl
@[simp] theorem State.onPLink_dram (s : State) (f : LinkState → LinkState) : (s.onPLink f).dram = s.dram := rfl
@[simp] theorem State.onPLink_free (s : State) (f : LinkState → LinkState) : (s.onPLink f).free = s.free := rfl
@[simp] theorem State.onPLink_pending (s : State) (f : LinkState → LinkState) : (s.onPLink f).pending = s.pending := rfl

@[simp] theorem State.onSLink_session (s : State) (f : LinkState → LinkState) : (s.onSLink f).session = s.session := rfl
@[simp] theorem State.onSLink_seq (s : State) (f : LinkState → LinkState) : (s.onSLink f).seq = s.seq := rfl
@[simp] theorem State.onSLink_port (s : State) (f : LinkState → LinkState) : (s.onSLink f).port = s.port := rfl
@[simp] theorem State.onSLink_ring (s : State) (f : LinkState → LinkState) : (s.onSLink f).ring = s.ring := rfl
@[simp] theorem State.onSLink_guidance (s : State) (f : LinkState → LinkState) : (s.onSLink f).guidance = s.guidance := rfl
@[simp] theorem State.onSLink_darks (s : State) (f : LinkState → LinkState) : (s.onSLink f).darks = s.darks := rfl
@[simp] theorem State.onSLink_tileMap (s : State) (f : LinkState → LinkState) : (s.onSLink f).tileMap = s.tileMap := rfl
@[simp] theorem State.onSLink_engine (s : State) (f : LinkState → LinkState) : (s.onSLink f).engine = s.engine := rfl
@[simp] theorem State.onSLink_results (s : State) (f : LinkState → LinkState) : (s.onSLink f).results = s.results := rfl
@[simp] theorem State.onSLink_power (s : State) (f : LinkState → LinkState) : (s.onSLink f).power = s.power := rfl
@[simp] theorem State.onSLink_pLink (s : State) (f : LinkState → LinkState) : (s.onSLink f).pLink = s.pLink := rfl
@[simp] theorem State.onSLink_sLink (s : State) (f : LinkState → LinkState) : (s.onSLink f).sLink = f s.sLink := rfl
@[simp] theorem State.onSLink_lines (s : State) (f : LinkState → LinkState) : (s.onSLink f).lines = s.lines := rfl
@[simp] theorem State.onSLink_dram (s : State) (f : LinkState → LinkState) : (s.onSLink f).dram = s.dram := rfl
@[simp] theorem State.onSLink_free (s : State) (f : LinkState → LinkState) : (s.onSLink f).free = s.free := rfl
@[simp] theorem State.onSLink_pending (s : State) (f : LinkState → LinkState) : (s.onSLink f).pending = s.pending := rfl

@[simp] theorem State.onLines_session (s : State) (f : Lines → Lines) : (s.onLines f).session = s.session := rfl
@[simp] theorem State.onLines_seq (s : State) (f : Lines → Lines) : (s.onLines f).seq = s.seq := rfl
@[simp] theorem State.onLines_port (s : State) (f : Lines → Lines) : (s.onLines f).port = s.port := rfl
@[simp] theorem State.onLines_ring (s : State) (f : Lines → Lines) : (s.onLines f).ring = s.ring := rfl
@[simp] theorem State.onLines_guidance (s : State) (f : Lines → Lines) : (s.onLines f).guidance = s.guidance := rfl
@[simp] theorem State.onLines_darks (s : State) (f : Lines → Lines) : (s.onLines f).darks = s.darks := rfl
@[simp] theorem State.onLines_tileMap (s : State) (f : Lines → Lines) : (s.onLines f).tileMap = s.tileMap := rfl
@[simp] theorem State.onLines_engine (s : State) (f : Lines → Lines) : (s.onLines f).engine = s.engine := rfl
@[simp] theorem State.onLines_results (s : State) (f : Lines → Lines) : (s.onLines f).results = s.results := rfl
@[simp] theorem State.onLines_power (s : State) (f : Lines → Lines) : (s.onLines f).power = s.power := rfl
@[simp] theorem State.onLines_pLink (s : State) (f : Lines → Lines) : (s.onLines f).pLink = s.pLink := rfl
@[simp] theorem State.onLines_sLink (s : State) (f : Lines → Lines) : (s.onLines f).sLink = s.sLink := rfl
@[simp] theorem State.onLines_lines (s : State) (f : Lines → Lines) : (s.onLines f).lines = f s.lines := rfl
@[simp] theorem State.onLines_dram (s : State) (f : Lines → Lines) : (s.onLines f).dram = s.dram := rfl
@[simp] theorem State.onLines_free (s : State) (f : Lines → Lines) : (s.onLines f).free = s.free := rfl
@[simp] theorem State.onLines_pending (s : State) (f : Lines → Lines) : (s.onLines f).pending = s.pending := rfl

@[simp] theorem State.onDram_session (s : State) (f : Dram → Dram) : (s.onDram f).session = s.session := rfl
@[simp] theorem State.onDram_seq (s : State) (f : Dram → Dram) : (s.onDram f).seq = s.seq := rfl
@[simp] theorem State.onDram_port (s : State) (f : Dram → Dram) : (s.onDram f).port = s.port := rfl
@[simp] theorem State.onDram_ring (s : State) (f : Dram → Dram) : (s.onDram f).ring = s.ring := rfl
@[simp] theorem State.onDram_guidance (s : State) (f : Dram → Dram) : (s.onDram f).guidance = s.guidance := rfl
@[simp] theorem State.onDram_darks (s : State) (f : Dram → Dram) : (s.onDram f).darks = s.darks := rfl
@[simp] theorem State.onDram_tileMap (s : State) (f : Dram → Dram) : (s.onDram f).tileMap = s.tileMap := rfl
@[simp] theorem State.onDram_engine (s : State) (f : Dram → Dram) : (s.onDram f).engine = s.engine := rfl
@[simp] theorem State.onDram_results (s : State) (f : Dram → Dram) : (s.onDram f).results = s.results := rfl
@[simp] theorem State.onDram_power (s : State) (f : Dram → Dram) : (s.onDram f).power = s.power := rfl
@[simp] theorem State.onDram_pLink (s : State) (f : Dram → Dram) : (s.onDram f).pLink = s.pLink := rfl
@[simp] theorem State.onDram_sLink (s : State) (f : Dram → Dram) : (s.onDram f).sLink = s.sLink := rfl
@[simp] theorem State.onDram_lines (s : State) (f : Dram → Dram) : (s.onDram f).lines = s.lines := rfl
@[simp] theorem State.onDram_dram (s : State) (f : Dram → Dram) : (s.onDram f).dram = f s.dram := rfl
@[simp] theorem State.onDram_free (s : State) (f : Dram → Dram) : (s.onDram f).free = s.free := rfl
@[simp] theorem State.onDram_pending (s : State) (f : Dram → Dram) : (s.onDram f).pending = s.pending := rfl

@[simp] theorem State.onFree_session (s : State) (f : Nat → Nat) : (s.onFree f).session = s.session := rfl
@[simp] theorem State.onFree_seq (s : State) (f : Nat → Nat) : (s.onFree f).seq = s.seq := rfl
@[simp] theorem State.onFree_port (s : State) (f : Nat → Nat) : (s.onFree f).port = s.port := rfl
@[simp] theorem State.onFree_ring (s : State) (f : Nat → Nat) : (s.onFree f).ring = s.ring := rfl
@[simp] theorem State.onFree_guidance (s : State) (f : Nat → Nat) : (s.onFree f).guidance = s.guidance := rfl
@[simp] theorem State.onFree_darks (s : State) (f : Nat → Nat) : (s.onFree f).darks = s.darks := rfl
@[simp] theorem State.onFree_tileMap (s : State) (f : Nat → Nat) : (s.onFree f).tileMap = s.tileMap := rfl
@[simp] theorem State.onFree_engine (s : State) (f : Nat → Nat) : (s.onFree f).engine = s.engine := rfl
@[simp] theorem State.onFree_results (s : State) (f : Nat → Nat) : (s.onFree f).results = s.results := rfl
@[simp] theorem State.onFree_power (s : State) (f : Nat → Nat) : (s.onFree f).power = s.power := rfl
@[simp] theorem State.onFree_pLink (s : State) (f : Nat → Nat) : (s.onFree f).pLink = s.pLink := rfl
@[simp] theorem State.onFree_sLink (s : State) (f : Nat → Nat) : (s.onFree f).sLink = s.sLink := rfl
@[simp] theorem State.onFree_lines (s : State) (f : Nat → Nat) : (s.onFree f).lines = s.lines := rfl
@[simp] theorem State.onFree_dram (s : State) (f : Nat → Nat) : (s.onFree f).dram = s.dram := rfl
@[simp] theorem State.onFree_free (s : State) (f : Nat → Nat) : (s.onFree f).free = f s.free := rfl
@[simp] theorem State.onFree_pending (s : State) (f : Nat → Nat) : (s.onFree f).pending = s.pending := rfl

@[simp] theorem State.onPending_session (s : State) (f : List Instr → List Instr) : (s.onPending f).session = s.session := rfl
@[simp] theorem State.onPending_seq (s : State) (f : List Instr → List Instr) : (s.onPending f).seq = s.seq := rfl
@[simp] theorem State.onPending_port (s : State) (f : List Instr → List Instr) : (s.onPending f).port = s.port := rfl
@[simp] theorem State.onPending_ring (s : State) (f : List Instr → List Instr) : (s.onPending f).ring = s.ring := rfl
@[simp] theorem State.onPending_guidance (s : State) (f : List Instr → List Instr) : (s.onPending f).guidance = s.guidance := rfl
@[simp] theorem State.onPending_darks (s : State) (f : List Instr → List Instr) : (s.onPending f).darks = s.darks := rfl
@[simp] theorem State.onPending_tileMap (s : State) (f : List Instr → List Instr) : (s.onPending f).tileMap = s.tileMap := rfl
@[simp] theorem State.onPending_engine (s : State) (f : List Instr → List Instr) : (s.onPending f).engine = s.engine := rfl
@[simp] theorem State.onPending_results (s : State) (f : List Instr → List Instr) : (s.onPending f).results = s.results := rfl
@[simp] theorem State.onPending_power (s : State) (f : List Instr → List Instr) : (s.onPending f).power = s.power := rfl
@[simp] theorem State.onPending_pLink (s : State) (f : List Instr → List Instr) : (s.onPending f).pLink = s.pLink := rfl
@[simp] theorem State.onPending_sLink (s : State) (f : List Instr → List Instr) : (s.onPending f).sLink = s.sLink := rfl
@[simp] theorem State.onPending_lines (s : State) (f : List Instr → List Instr) : (s.onPending f).lines = s.lines := rfl
@[simp] theorem State.onPending_dram (s : State) (f : List Instr → List Instr) : (s.onPending f).dram = s.dram := rfl
@[simp] theorem State.onPending_free (s : State) (f : List Instr → List Instr) : (s.onPending f).free = s.free := rfl
@[simp] theorem State.onPending_pending (s : State) (f : List Instr → List Instr) : (s.onPending f).pending = f s.pending := rfl

end Sys2Proof.Machine
end

