-- ==== Sys2Proof/Laws/Frames.lean ====
section
/-! SUPPORT. What each shared operation leaves alone: one lemma an operation and a component it never changes. -/

namespace Sys2Proof.Machine

@[simp] theorem raise_session (s : State) (e : Event) : (raise e s).session = s.session := by simp [raise]
@[simp] theorem raise_seq (s : State) (e : Event) : (raise e s).seq = s.seq := by simp [raise]
@[simp] theorem raise_port (s : State) (e : Event) : (raise e s).port = s.port := by simp [raise]
@[simp] theorem raise_ring (s : State) (e : Event) : (raise e s).ring = s.ring := by simp [raise]
@[simp] theorem raise_guidance (s : State) (e : Event) : (raise e s).guidance = s.guidance := by simp [raise]
@[simp] theorem raise_darks (s : State) (e : Event) : (raise e s).darks = s.darks := by simp [raise]
@[simp] theorem raise_tileMap (s : State) (e : Event) : (raise e s).tileMap = s.tileMap := by simp [raise]
@[simp] theorem raise_engine (s : State) (e : Event) : (raise e s).engine = s.engine := by simp [raise]
@[simp] theorem raise_results (s : State) (e : Event) : (raise e s).results = s.results := by simp [raise]
@[simp] theorem raise_power (s : State) (e : Event) : (raise e s).power = s.power := by simp [raise]
@[simp] theorem raise_lines (s : State) (e : Event) : (raise e s).lines = s.lines := by simp [raise]
@[simp] theorem raise_dram (s : State) (e : Event) : (raise e s).dram = s.dram := by simp [raise]
@[simp] theorem raise_free (s : State) (e : Event) : (raise e s).free = s.free := by simp [raise]
@[simp] theorem raise_pending (s : State) (e : Event) : (raise e s).pending = s.pending := by simp [raise]

@[simp] theorem wake_session (s : State) (c : WakeCause) : (wake c s).session = s.session := by simp only [wake]; (repeat' split) <;> simp
@[simp] theorem wake_seq (s : State) (c : WakeCause) : (wake c s).seq = s.seq := by simp only [wake]; (repeat' split) <;> simp
@[simp] theorem wake_port (s : State) (c : WakeCause) : (wake c s).port = s.port := by simp only [wake]; (repeat' split) <;> simp
@[simp] theorem wake_ring (s : State) (c : WakeCause) : (wake c s).ring = s.ring := by simp only [wake]; (repeat' split) <;> simp
@[simp] theorem wake_guidance (s : State) (c : WakeCause) : (wake c s).guidance = s.guidance := by simp only [wake]; (repeat' split) <;> simp
@[simp] theorem wake_darks (s : State) (c : WakeCause) : (wake c s).darks = s.darks := by simp only [wake]; (repeat' split) <;> simp
@[simp] theorem wake_tileMap (s : State) (c : WakeCause) : (wake c s).tileMap = s.tileMap := by simp only [wake]; (repeat' split) <;> simp
@[simp] theorem wake_engine (s : State) (c : WakeCause) : (wake c s).engine = s.engine := by simp only [wake]; (repeat' split) <;> simp
@[simp] theorem wake_results (s : State) (c : WakeCause) : (wake c s).results = s.results := by simp only [wake]; (repeat' split) <;> simp
@[simp] theorem wake_pLink (s : State) (c : WakeCause) : (wake c s).pLink = s.pLink := by simp only [wake]; (repeat' split) <;> simp
@[simp] theorem wake_sLink (s : State) (c : WakeCause) : (wake c s).sLink = s.sLink := by simp only [wake]; (repeat' split) <;> simp
@[simp] theorem wake_lines (s : State) (c : WakeCause) : (wake c s).lines = s.lines := by simp only [wake]; (repeat' split) <;> simp
@[simp] theorem wake_dram (s : State) (c : WakeCause) : (wake c s).dram = s.dram := by simp only [wake]; (repeat' split) <;> simp
@[simp] theorem wake_free (s : State) (c : WakeCause) : (wake c s).free = s.free := by simp only [wake]; (repeat' split) <;> simp
@[simp] theorem wake_pending (s : State) (c : WakeCause) : (wake c s).pending = s.pending := by simp only [wake]; (repeat' split) <;> simp

@[simp] theorem State.loseMemory_session (s : State) : (s.loseMemory).session = s.session := by simp [State.loseMemory]
@[simp] theorem State.loseMemory_seq (s : State) : (s.loseMemory).seq = s.seq := by simp [State.loseMemory]
@[simp] theorem State.loseMemory_port (s : State) : (s.loseMemory).port = s.port := by simp [State.loseMemory]
@[simp] theorem State.loseMemory_ring (s : State) : (s.loseMemory).ring = s.ring := by simp [State.loseMemory]
@[simp] theorem State.loseMemory_guidance (s : State) : (s.loseMemory).guidance = s.guidance := by simp [State.loseMemory]
@[simp] theorem State.loseMemory_darks (s : State) : (s.loseMemory).darks = s.darks := by simp [State.loseMemory]
@[simp] theorem State.loseMemory_tileMap (s : State) : (s.loseMemory).tileMap = s.tileMap := by simp [State.loseMemory]
@[simp] theorem State.loseMemory_engine (s : State) : (s.loseMemory).engine = s.engine := by simp [State.loseMemory]
@[simp] theorem State.loseMemory_results (s : State) : (s.loseMemory).results = s.results := by simp [State.loseMemory]
@[simp] theorem State.loseMemory_power (s : State) : (s.loseMemory).power = s.power := by simp [State.loseMemory]
@[simp] theorem State.loseMemory_pLink (s : State) : (s.loseMemory).pLink = s.pLink := by simp [State.loseMemory]
@[simp] theorem State.loseMemory_sLink (s : State) : (s.loseMemory).sLink = s.sLink := by simp [State.loseMemory]
@[simp] theorem State.loseMemory_lines (s : State) : (s.loseMemory).lines = s.lines := by simp [State.loseMemory]
@[simp] theorem State.loseMemory_free (s : State) : (s.loseMemory).free = s.free := by simp [State.loseMemory]
@[simp] theorem State.loseMemory_pending (s : State) : (s.loseMemory).pending = s.pending := by simp [State.loseMemory]

@[simp] theorem standbyWake_session (s : State) (c : WakeCause) : (standbyWake c s).session = s.session := by simp only [standbyWake]; (repeat' split) <;> simp
@[simp] theorem standbyWake_seq (s : State) (c : WakeCause) : (standbyWake c s).seq = s.seq := by simp only [standbyWake]; (repeat' split) <;> simp
@[simp] theorem standbyWake_port (s : State) (c : WakeCause) : (standbyWake c s).port = s.port := by simp only [standbyWake]; (repeat' split) <;> simp
@[simp] theorem standbyWake_ring (s : State) (c : WakeCause) : (standbyWake c s).ring = s.ring := by simp only [standbyWake]; (repeat' split) <;> simp
@[simp] theorem standbyWake_guidance (s : State) (c : WakeCause) : (standbyWake c s).guidance = s.guidance := by simp only [standbyWake]; (repeat' split) <;> simp
@[simp] theorem standbyWake_darks (s : State) (c : WakeCause) : (standbyWake c s).darks = s.darks := by simp only [standbyWake]; (repeat' split) <;> simp
@[simp] theorem standbyWake_tileMap (s : State) (c : WakeCause) : (standbyWake c s).tileMap = s.tileMap := by simp only [standbyWake]; (repeat' split) <;> simp
@[simp] theorem standbyWake_engine (s : State) (c : WakeCause) : (standbyWake c s).engine = s.engine := by simp only [standbyWake]; (repeat' split) <;> simp
@[simp] theorem standbyWake_results (s : State) (c : WakeCause) : (standbyWake c s).results = s.results := by simp only [standbyWake]; (repeat' split) <;> simp
@[simp] theorem standbyWake_pLink (s : State) (c : WakeCause) : (standbyWake c s).pLink = s.pLink := by simp only [standbyWake]; (repeat' split) <;> simp
@[simp] theorem standbyWake_sLink (s : State) (c : WakeCause) : (standbyWake c s).sLink = s.sLink := by simp only [standbyWake]; (repeat' split) <;> simp
@[simp] theorem standbyWake_lines (s : State) (c : WakeCause) : (standbyWake c s).lines = s.lines := by simp only [standbyWake]; (repeat' split) <;> simp
@[simp] theorem standbyWake_free (s : State) (c : WakeCause) : (standbyWake c s).free = s.free := by simp only [standbyWake]; (repeat' split) <;> simp
@[simp] theorem standbyWake_pending (s : State) (c : WakeCause) : (standbyWake c s).pending = s.pending := by simp only [standbyWake]; (repeat' split) <;> simp

@[simp] theorem giveUpWaiting_session (s : State) (c : RefusalCause) : (giveUpWaiting c s).session = s.session := by simp only [giveUpWaiting]; split <;> simp
@[simp] theorem giveUpWaiting_seq (s : State) (c : RefusalCause) : (giveUpWaiting c s).seq = s.seq := by simp only [giveUpWaiting]; split <;> simp
@[simp] theorem giveUpWaiting_port (s : State) (c : RefusalCause) : (giveUpWaiting c s).port = s.port := by simp only [giveUpWaiting]; split <;> simp
@[simp] theorem giveUpWaiting_ring (s : State) (c : RefusalCause) : (giveUpWaiting c s).ring = s.ring := by simp only [giveUpWaiting]; split <;> simp
@[simp] theorem giveUpWaiting_guidance (s : State) (c : RefusalCause) : (giveUpWaiting c s).guidance = s.guidance := by simp only [giveUpWaiting]; split <;> simp
@[simp] theorem giveUpWaiting_darks (s : State) (c : RefusalCause) : (giveUpWaiting c s).darks = s.darks := by simp only [giveUpWaiting]; split <;> simp
@[simp] theorem giveUpWaiting_tileMap (s : State) (c : RefusalCause) : (giveUpWaiting c s).tileMap = s.tileMap := by simp only [giveUpWaiting]; split <;> simp
@[simp] theorem giveUpWaiting_engine (s : State) (c : RefusalCause) : (giveUpWaiting c s).engine = s.engine := by simp only [giveUpWaiting]; split <;> simp
@[simp] theorem giveUpWaiting_results (s : State) (c : RefusalCause) : (giveUpWaiting c s).results = s.results := by simp only [giveUpWaiting]; split <;> simp
@[simp] theorem giveUpWaiting_lines (s : State) (c : RefusalCause) : (giveUpWaiting c s).lines = s.lines := by simp only [giveUpWaiting]; split <;> simp
@[simp] theorem giveUpWaiting_dram (s : State) (c : RefusalCause) : (giveUpWaiting c s).dram = s.dram := by simp only [giveUpWaiting]; split <;> simp
@[simp] theorem giveUpWaiting_free (s : State) (c : RefusalCause) : (giveUpWaiting c s).free = s.free := by simp only [giveUpWaiting]; split <;> simp
@[simp] theorem giveUpWaiting_pending (s : State) (c : RefusalCause) : (giveUpWaiting c s).pending = s.pending := by simp only [giveUpWaiting]; split <;> simp

@[simp] theorem enterSession_seq (s : State) (st : SessionState) : (enterSession st s).seq = s.seq := by simp [enterSession]
@[simp] theorem enterSession_port (s : State) (st : SessionState) : (enterSession st s).port = s.port := by simp [enterSession]
@[simp] theorem enterSession_ring (s : State) (st : SessionState) : (enterSession st s).ring = s.ring := by simp [enterSession]
@[simp] theorem enterSession_guidance (s : State) (st : SessionState) : (enterSession st s).guidance = s.guidance := by simp [enterSession]
@[simp] theorem enterSession_darks (s : State) (st : SessionState) : (enterSession st s).darks = s.darks := by simp [enterSession]
@[simp] theorem enterSession_tileMap (s : State) (st : SessionState) : (enterSession st s).tileMap = s.tileMap := by simp [enterSession]
@[simp] theorem enterSession_engine (s : State) (st : SessionState) : (enterSession st s).engine = s.engine := by simp [enterSession]
@[simp] theorem enterSession_results (s : State) (st : SessionState) : (enterSession st s).results = s.results := by simp [enterSession]
@[simp] theorem enterSession_power (s : State) (st : SessionState) : (enterSession st s).power = s.power := by simp [enterSession]
@[simp] theorem enterSession_lines (s : State) (st : SessionState) : (enterSession st s).lines = s.lines := by simp [enterSession]
@[simp] theorem enterSession_dram (s : State) (st : SessionState) : (enterSession st s).dram = s.dram := by simp [enterSession]
@[simp] theorem enterSession_free (s : State) (st : SessionState) : (enterSession st s).free = s.free := by simp [enterSession]
@[simp] theorem enterSession_pending (s : State) (st : SessionState) : (enterSession st s).pending = s.pending := by simp [enterSession]

@[simp] theorem enterPaused_seq (s : State) (c : PauseCause) : (enterPaused c s).seq = s.seq := by simp [enterPaused]
@[simp] theorem enterPaused_port (s : State) (c : PauseCause) : (enterPaused c s).port = s.port := by simp [enterPaused]
@[simp] theorem enterPaused_ring (s : State) (c : PauseCause) : (enterPaused c s).ring = s.ring := by simp [enterPaused]
@[simp] theorem enterPaused_guidance (s : State) (c : PauseCause) : (enterPaused c s).guidance = s.guidance := by simp [enterPaused]
@[simp] theorem enterPaused_darks (s : State) (c : PauseCause) : (enterPaused c s).darks = s.darks := by simp [enterPaused]
@[simp] theorem enterPaused_tileMap (s : State) (c : PauseCause) : (enterPaused c s).tileMap = s.tileMap := by simp [enterPaused]
@[simp] theorem enterPaused_engine (s : State) (c : PauseCause) : (enterPaused c s).engine = s.engine := by simp [enterPaused]
@[simp] theorem enterPaused_results (s : State) (c : PauseCause) : (enterPaused c s).results = s.results := by simp [enterPaused]
@[simp] theorem enterPaused_power (s : State) (c : PauseCause) : (enterPaused c s).power = s.power := by simp [enterPaused]
@[simp] theorem enterPaused_lines (s : State) (c : PauseCause) : (enterPaused c s).lines = s.lines := by simp [enterPaused]
@[simp] theorem enterPaused_dram (s : State) (c : PauseCause) : (enterPaused c s).dram = s.dram := by simp [enterPaused]
@[simp] theorem enterPaused_free (s : State) (c : PauseCause) : (enterPaused c s).free = s.free := by simp [enterPaused]
@[simp] theorem enterPaused_pending (s : State) (c : PauseCause) : (enterPaused c s).pending = s.pending := by simp [enterPaused]

@[simp] theorem enterRunning_seq (s : State) : (enterRunning s).seq = s.seq := by simp [enterRunning]
@[simp] theorem enterRunning_port (s : State) : (enterRunning s).port = s.port := by simp [enterRunning]
@[simp] theorem enterRunning_ring (s : State) : (enterRunning s).ring = s.ring := by simp [enterRunning]
@[simp] theorem enterRunning_guidance (s : State) : (enterRunning s).guidance = s.guidance := by simp [enterRunning]
@[simp] theorem enterRunning_darks (s : State) : (enterRunning s).darks = s.darks := by simp [enterRunning]
@[simp] theorem enterRunning_tileMap (s : State) : (enterRunning s).tileMap = s.tileMap := by simp [enterRunning]
@[simp] theorem enterRunning_engine (s : State) : (enterRunning s).engine = s.engine := by simp [enterRunning]
@[simp] theorem enterRunning_results (s : State) : (enterRunning s).results = s.results := by simp [enterRunning]
@[simp] theorem enterRunning_power (s : State) : (enterRunning s).power = s.power := by simp [enterRunning]
@[simp] theorem enterRunning_lines (s : State) : (enterRunning s).lines = s.lines := by simp [enterRunning]
@[simp] theorem enterRunning_dram (s : State) : (enterRunning s).dram = s.dram := by simp [enterRunning]
@[simp] theorem enterRunning_free (s : State) : (enterRunning s).free = s.free := by simp [enterRunning]
@[simp] theorem enterRunning_pending (s : State) : (enterRunning s).pending = s.pending := by simp [enterRunning]

@[simp] theorem drainCheck_seq (s : State) (c : WakeCause) : (drainCheck c s).seq = s.seq := by simp only [drainCheck]; split <;> simp
@[simp] theorem drainCheck_port (s : State) (c : WakeCause) : (drainCheck c s).port = s.port := by simp only [drainCheck]; split <;> simp
@[simp] theorem drainCheck_ring (s : State) (c : WakeCause) : (drainCheck c s).ring = s.ring := by simp only [drainCheck]; split <;> simp
@[simp] theorem drainCheck_guidance (s : State) (c : WakeCause) : (drainCheck c s).guidance = s.guidance := by simp only [drainCheck]; split <;> simp
@[simp] theorem drainCheck_darks (s : State) (c : WakeCause) : (drainCheck c s).darks = s.darks := by simp only [drainCheck]; split <;> simp
@[simp] theorem drainCheck_tileMap (s : State) (c : WakeCause) : (drainCheck c s).tileMap = s.tileMap := by simp only [drainCheck]; split <;> simp
@[simp] theorem drainCheck_results (s : State) (c : WakeCause) : (drainCheck c s).results = s.results := by simp only [drainCheck]; split <;> simp
@[simp] theorem drainCheck_lines (s : State) (c : WakeCause) : (drainCheck c s).lines = s.lines := by simp only [drainCheck]; split <;> simp
@[simp] theorem drainCheck_dram (s : State) (c : WakeCause) : (drainCheck c s).dram = s.dram := by simp only [drainCheck]; split <;> simp
@[simp] theorem drainCheck_free (s : State) (c : WakeCause) : (drainCheck c s).free = s.free := by simp only [drainCheck]; split <;> simp
@[simp] theorem drainCheck_pending (s : State) (c : WakeCause) : (drainCheck c s).pending = s.pending := by simp only [drainCheck]; split <;> simp

@[simp] theorem enterIdle_session (s : State) : (enterIdle s).session = s.session := by simp [enterIdle]
@[simp] theorem enterIdle_port (s : State) : (enterIdle s).port = s.port := by simp [enterIdle]
@[simp] theorem enterIdle_ring (s : State) : (enterIdle s).ring = s.ring := by simp [enterIdle]
@[simp] theorem enterIdle_guidance (s : State) : (enterIdle s).guidance = s.guidance := by simp [enterIdle]
@[simp] theorem enterIdle_darks (s : State) : (enterIdle s).darks = s.darks := by simp [enterIdle]
@[simp] theorem enterIdle_tileMap (s : State) : (enterIdle s).tileMap = s.tileMap := by simp [enterIdle]
@[simp] theorem enterIdle_engine (s : State) : (enterIdle s).engine = s.engine := by simp [enterIdle]
@[simp] theorem enterIdle_results (s : State) : (enterIdle s).results = s.results := by simp [enterIdle]
@[simp] theorem enterIdle_power (s : State) : (enterIdle s).power = s.power := by simp [enterIdle]
@[simp] theorem enterIdle_pLink (s : State) : (enterIdle s).pLink = s.pLink := by simp [enterIdle]
@[simp] theorem enterIdle_sLink (s : State) : (enterIdle s).sLink = s.sLink := by simp [enterIdle]
@[simp] theorem enterIdle_lines (s : State) : (enterIdle s).lines = s.lines := by simp [enterIdle]
@[simp] theorem enterIdle_dram (s : State) : (enterIdle s).dram = s.dram := by simp [enterIdle]
@[simp] theorem enterIdle_free (s : State) : (enterIdle s).free = s.free := by simp [enterIdle]
@[simp] theorem enterIdle_pending (s : State) : (enterIdle s).pending = s.pending := by simp [enterIdle]

@[simp] theorem coverOpen_session (s : State) : (coverOpen s).session = s.session := by simp only [coverOpen]; split <;> simp
@[simp] theorem coverOpen_port (s : State) : (coverOpen s).port = s.port := by simp only [coverOpen]; split <;> simp
@[simp] theorem coverOpen_ring (s : State) : (coverOpen s).ring = s.ring := by simp only [coverOpen]; split <;> simp
@[simp] theorem coverOpen_guidance (s : State) : (coverOpen s).guidance = s.guidance := by simp only [coverOpen]; split <;> simp
@[simp] theorem coverOpen_darks (s : State) : (coverOpen s).darks = s.darks := by simp only [coverOpen]; split <;> simp
@[simp] theorem coverOpen_tileMap (s : State) : (coverOpen s).tileMap = s.tileMap := by simp only [coverOpen]; split <;> simp
@[simp] theorem coverOpen_engine (s : State) : (coverOpen s).engine = s.engine := by simp only [coverOpen]; split <;> simp
@[simp] theorem coverOpen_results (s : State) : (coverOpen s).results = s.results := by simp only [coverOpen]; split <;> simp
@[simp] theorem coverOpen_power (s : State) : (coverOpen s).power = s.power := by simp only [coverOpen]; split <;> simp
@[simp] theorem coverOpen_pLink (s : State) : (coverOpen s).pLink = s.pLink := by simp only [coverOpen]; split <;> simp
@[simp] theorem coverOpen_sLink (s : State) : (coverOpen s).sLink = s.sLink := by simp only [coverOpen]; split <;> simp
@[simp] theorem coverOpen_lines (s : State) : (coverOpen s).lines = s.lines := by simp only [coverOpen]; split <;> simp
@[simp] theorem coverOpen_dram (s : State) : (coverOpen s).dram = s.dram := by simp only [coverOpen]; split <;> simp
@[simp] theorem coverOpen_free (s : State) : (coverOpen s).free = s.free := by simp only [coverOpen]; split <;> simp
@[simp] theorem coverOpen_pending (s : State) : (coverOpen s).pending = s.pending := by simp only [coverOpen]; split <;> simp

@[simp] theorem enterWaitOpen_session (s : State) : (enterWaitOpen s).session = s.session := by simp only [enterWaitOpen]; split <;> simp
@[simp] theorem enterWaitOpen_port (s : State) : (enterWaitOpen s).port = s.port := by simp only [enterWaitOpen]; split <;> simp
@[simp] theorem enterWaitOpen_ring (s : State) : (enterWaitOpen s).ring = s.ring := by simp only [enterWaitOpen]; split <;> simp
@[simp] theorem enterWaitOpen_guidance (s : State) : (enterWaitOpen s).guidance = s.guidance := by simp only [enterWaitOpen]; split <;> simp
@[simp] theorem enterWaitOpen_darks (s : State) : (enterWaitOpen s).darks = s.darks := by simp only [enterWaitOpen]; split <;> simp
@[simp] theorem enterWaitOpen_tileMap (s : State) : (enterWaitOpen s).tileMap = s.tileMap := by simp only [enterWaitOpen]; split <;> simp
@[simp] theorem enterWaitOpen_engine (s : State) : (enterWaitOpen s).engine = s.engine := by simp only [enterWaitOpen]; split <;> simp
@[simp] theorem enterWaitOpen_results (s : State) : (enterWaitOpen s).results = s.results := by simp only [enterWaitOpen]; split <;> simp
@[simp] theorem enterWaitOpen_power (s : State) : (enterWaitOpen s).power = s.power := by simp only [enterWaitOpen]; split <;> simp
@[simp] theorem enterWaitOpen_pLink (s : State) : (enterWaitOpen s).pLink = s.pLink := by simp only [enterWaitOpen]; split <;> simp
@[simp] theorem enterWaitOpen_sLink (s : State) : (enterWaitOpen s).sLink = s.sLink := by simp only [enterWaitOpen]; split <;> simp
@[simp] theorem enterWaitOpen_lines (s : State) : (enterWaitOpen s).lines = s.lines := by simp only [enterWaitOpen]; split <;> simp
@[simp] theorem enterWaitOpen_dram (s : State) : (enterWaitOpen s).dram = s.dram := by simp only [enterWaitOpen]; split <;> simp
@[simp] theorem enterWaitOpen_free (s : State) : (enterWaitOpen s).free = s.free := by simp only [enterWaitOpen]; split <;> simp
@[simp] theorem enterWaitOpen_pending (s : State) : (enterWaitOpen s).pending = s.pending := by simp only [enterWaitOpen]; split <;> simp

@[simp] theorem releaseShutter_session (s : State) : (releaseShutter s).session = s.session := by simp [releaseShutter]
@[simp] theorem releaseShutter_seq (s : State) : (releaseShutter s).seq = s.seq := by simp [releaseShutter]
@[simp] theorem releaseShutter_port (s : State) : (releaseShutter s).port = s.port := by simp [releaseShutter]
@[simp] theorem releaseShutter_ring (s : State) : (releaseShutter s).ring = s.ring := by simp [releaseShutter]
@[simp] theorem releaseShutter_guidance (s : State) : (releaseShutter s).guidance = s.guidance := by simp [releaseShutter]
@[simp] theorem releaseShutter_darks (s : State) : (releaseShutter s).darks = s.darks := by simp [releaseShutter]
@[simp] theorem releaseShutter_tileMap (s : State) : (releaseShutter s).tileMap = s.tileMap := by simp [releaseShutter]
@[simp] theorem releaseShutter_engine (s : State) : (releaseShutter s).engine = s.engine := by simp [releaseShutter]
@[simp] theorem releaseShutter_results (s : State) : (releaseShutter s).results = s.results := by simp [releaseShutter]
@[simp] theorem releaseShutter_power (s : State) : (releaseShutter s).power = s.power := by simp [releaseShutter]
@[simp] theorem releaseShutter_pLink (s : State) : (releaseShutter s).pLink = s.pLink := by simp [releaseShutter]
@[simp] theorem releaseShutter_sLink (s : State) : (releaseShutter s).sLink = s.sLink := by simp [releaseShutter]
@[simp] theorem releaseShutter_dram (s : State) : (releaseShutter s).dram = s.dram := by simp [releaseShutter]
@[simp] theorem releaseShutter_free (s : State) : (releaseShutter s).free = s.free := by simp [releaseShutter]
@[simp] theorem releaseShutter_pending (s : State) : (releaseShutter s).pending = s.pending := by simp [releaseShutter]

@[simp] theorem sequencerDrain_session (s : State) : (sequencerDrain s).session = s.session := by simp only [sequencerDrain]; split <;> simp
@[simp] theorem sequencerDrain_port (s : State) : (sequencerDrain s).port = s.port := by simp only [sequencerDrain]; split <;> simp
@[simp] theorem sequencerDrain_ring (s : State) : (sequencerDrain s).ring = s.ring := by simp only [sequencerDrain]; split <;> simp
@[simp] theorem sequencerDrain_guidance (s : State) : (sequencerDrain s).guidance = s.guidance := by simp only [sequencerDrain]; split <;> simp
@[simp] theorem sequencerDrain_darks (s : State) : (sequencerDrain s).darks = s.darks := by simp only [sequencerDrain]; split <;> simp
@[simp] theorem sequencerDrain_tileMap (s : State) : (sequencerDrain s).tileMap = s.tileMap := by simp only [sequencerDrain]; split <;> simp
@[simp] theorem sequencerDrain_engine (s : State) : (sequencerDrain s).engine = s.engine := by simp only [sequencerDrain]; split <;> simp
@[simp] theorem sequencerDrain_results (s : State) : (sequencerDrain s).results = s.results := by simp only [sequencerDrain]; split <;> simp
@[simp] theorem sequencerDrain_power (s : State) : (sequencerDrain s).power = s.power := by simp only [sequencerDrain]; split <;> simp
@[simp] theorem sequencerDrain_pLink (s : State) : (sequencerDrain s).pLink = s.pLink := by simp only [sequencerDrain]; split <;> simp
@[simp] theorem sequencerDrain_sLink (s : State) : (sequencerDrain s).sLink = s.sLink := by simp only [sequencerDrain]; split <;> simp
@[simp] theorem sequencerDrain_dram (s : State) : (sequencerDrain s).dram = s.dram := by simp only [sequencerDrain]; split <;> simp
@[simp] theorem sequencerDrain_free (s : State) : (sequencerDrain s).free = s.free := by simp only [sequencerDrain]; split <;> simp
@[simp] theorem sequencerDrain_pending (s : State) : (sequencerDrain s).pending = s.pending := by simp only [sequencerDrain]; split <;> simp

@[simp] theorem enterDraining_port (s : State) (c : WakeCause) : (enterDraining c s).port = s.port := by simp [enterDraining]
@[simp] theorem enterDraining_ring (s : State) (c : WakeCause) : (enterDraining c s).ring = s.ring := by simp [enterDraining]
@[simp] theorem enterDraining_guidance (s : State) (c : WakeCause) : (enterDraining c s).guidance = s.guidance := by simp [enterDraining]
@[simp] theorem enterDraining_darks (s : State) (c : WakeCause) : (enterDraining c s).darks = s.darks := by simp [enterDraining]
@[simp] theorem enterDraining_tileMap (s : State) (c : WakeCause) : (enterDraining c s).tileMap = s.tileMap := by simp [enterDraining]
@[simp] theorem enterDraining_results (s : State) (c : WakeCause) : (enterDraining c s).results = s.results := by simp [enterDraining]
@[simp] theorem enterDraining_dram (s : State) (c : WakeCause) : (enterDraining c s).dram = s.dram := by simp [enterDraining]
@[simp] theorem enterDraining_free (s : State) (c : WakeCause) : (enterDraining c s).free = s.free := by simp [enterDraining]
@[simp] theorem enterDraining_pending (s : State) (c : WakeCause) : (enterDraining c s).pending = s.pending := by simp [enterDraining]

@[simp] theorem cadenceAfresh_session (s : State) : (cadenceAfresh s).session = s.session := by simp only [cadenceAfresh]; split <;> simp
@[simp] theorem cadenceAfresh_port (s : State) : (cadenceAfresh s).port = s.port := by simp only [cadenceAfresh]; split <;> simp
@[simp] theorem cadenceAfresh_ring (s : State) : (cadenceAfresh s).ring = s.ring := by simp only [cadenceAfresh]; split <;> simp
@[simp] theorem cadenceAfresh_guidance (s : State) : (cadenceAfresh s).guidance = s.guidance := by simp only [cadenceAfresh]; split <;> simp
@[simp] theorem cadenceAfresh_darks (s : State) : (cadenceAfresh s).darks = s.darks := by simp only [cadenceAfresh]; split <;> simp
@[simp] theorem cadenceAfresh_tileMap (s : State) : (cadenceAfresh s).tileMap = s.tileMap := by simp only [cadenceAfresh]; split <;> simp
@[simp] theorem cadenceAfresh_engine (s : State) : (cadenceAfresh s).engine = s.engine := by simp only [cadenceAfresh]; split <;> simp
@[simp] theorem cadenceAfresh_results (s : State) : (cadenceAfresh s).results = s.results := by simp only [cadenceAfresh]; split <;> simp
@[simp] theorem cadenceAfresh_power (s : State) : (cadenceAfresh s).power = s.power := by simp only [cadenceAfresh]; split <;> simp
@[simp] theorem cadenceAfresh_pLink (s : State) : (cadenceAfresh s).pLink = s.pLink := by simp only [cadenceAfresh]; split <;> simp
@[simp] theorem cadenceAfresh_sLink (s : State) : (cadenceAfresh s).sLink = s.sLink := by simp only [cadenceAfresh]; split <;> simp
@[simp] theorem cadenceAfresh_lines (s : State) : (cadenceAfresh s).lines = s.lines := by simp only [cadenceAfresh]; split <;> simp
@[simp] theorem cadenceAfresh_dram (s : State) : (cadenceAfresh s).dram = s.dram := by simp only [cadenceAfresh]; split <;> simp
@[simp] theorem cadenceAfresh_free (s : State) : (cadenceAfresh s).free = s.free := by simp only [cadenceAfresh]; split <;> simp
@[simp] theorem cadenceAfresh_pending (s : State) : (cadenceAfresh s).pending = s.pending := by simp only [cadenceAfresh]; split <;> simp

@[simp] theorem checkSubLimit_port (s : State) : (checkSubLimit s).port = s.port := by simp only [checkSubLimit]; split <;> simp
@[simp] theorem checkSubLimit_ring (s : State) : (checkSubLimit s).ring = s.ring := by simp only [checkSubLimit]; split <;> simp
@[simp] theorem checkSubLimit_guidance (s : State) : (checkSubLimit s).guidance = s.guidance := by simp only [checkSubLimit]; split <;> simp
@[simp] theorem checkSubLimit_darks (s : State) : (checkSubLimit s).darks = s.darks := by simp only [checkSubLimit]; split <;> simp
@[simp] theorem checkSubLimit_tileMap (s : State) : (checkSubLimit s).tileMap = s.tileMap := by simp only [checkSubLimit]; split <;> simp
@[simp] theorem checkSubLimit_results (s : State) : (checkSubLimit s).results = s.results := by simp only [checkSubLimit]; split <;> simp
@[simp] theorem checkSubLimit_dram (s : State) : (checkSubLimit s).dram = s.dram := by simp only [checkSubLimit]; split <;> simp
@[simp] theorem checkSubLimit_free (s : State) : (checkSubLimit s).free = s.free := by simp only [checkSubLimit]; split <;> simp
@[simp] theorem checkSubLimit_pending (s : State) : (checkSubLimit s).pending = s.pending := by simp only [checkSubLimit]; split <;> simp

@[simp] theorem checkLimits_port (s : State) : (checkLimits s).port = s.port := by simp only [checkLimits]; split <;> simp
@[simp] theorem checkLimits_ring (s : State) : (checkLimits s).ring = s.ring := by simp only [checkLimits]; split <;> simp
@[simp] theorem checkLimits_guidance (s : State) : (checkLimits s).guidance = s.guidance := by simp only [checkLimits]; split <;> simp
@[simp] theorem checkLimits_darks (s : State) : (checkLimits s).darks = s.darks := by simp only [checkLimits]; split <;> simp
@[simp] theorem checkLimits_tileMap (s : State) : (checkLimits s).tileMap = s.tileMap := by simp only [checkLimits]; split <;> simp
@[simp] theorem checkLimits_results (s : State) : (checkLimits s).results = s.results := by simp only [checkLimits]; split <;> simp
@[simp] theorem checkLimits_dram (s : State) : (checkLimits s).dram = s.dram := by simp only [checkLimits]; split <;> simp
@[simp] theorem checkLimits_free (s : State) : (checkLimits s).free = s.free := by simp only [checkLimits]; split <;> simp
@[simp] theorem checkLimits_pending (s : State) : (checkLimits s).pending = s.pending := by simp only [checkLimits]; split <;> simp

@[simp] theorem applyPending_seq (s : State) : (applyPending s).seq = s.seq := by simp only [applyPending]; split <;> simp
@[simp] theorem applyPending_port (s : State) : (applyPending s).port = s.port := by simp only [applyPending]; split <;> simp
@[simp] theorem applyPending_ring (s : State) : (applyPending s).ring = s.ring := by simp only [applyPending]; split <;> simp
@[simp] theorem applyPending_guidance (s : State) : (applyPending s).guidance = s.guidance := by simp only [applyPending]; split <;> simp
@[simp] theorem applyPending_darks (s : State) : (applyPending s).darks = s.darks := by simp only [applyPending]; split <;> simp
@[simp] theorem applyPending_tileMap (s : State) : (applyPending s).tileMap = s.tileMap := by simp only [applyPending]; split <;> simp
@[simp] theorem applyPending_engine (s : State) : (applyPending s).engine = s.engine := by simp only [applyPending]; split <;> simp
@[simp] theorem applyPending_results (s : State) : (applyPending s).results = s.results := by simp only [applyPending]; split <;> simp
@[simp] theorem applyPending_power (s : State) : (applyPending s).power = s.power := by simp only [applyPending]; split <;> simp
@[simp] theorem applyPending_lines (s : State) : (applyPending s).lines = s.lines := by simp only [applyPending]; split <;> simp
@[simp] theorem applyPending_dram (s : State) : (applyPending s).dram = s.dram := by simp only [applyPending]; split <;> simp
@[simp] theorem applyPending_free (s : State) : (applyPending s).free = s.free := by simp only [applyPending]; split <;> simp
@[simp] theorem applyPending_pending (s : State) : (applyPending s).pending = s.pending := by simp only [applyPending]; split <;> simp

@[simp] theorem resumeRunning_port (s : State) : (resumeRunning s).port = s.port := by simp [resumeRunning]
@[simp] theorem resumeRunning_ring (s : State) : (resumeRunning s).ring = s.ring := by simp [resumeRunning]
@[simp] theorem resumeRunning_guidance (s : State) : (resumeRunning s).guidance = s.guidance := by simp [resumeRunning]
@[simp] theorem resumeRunning_darks (s : State) : (resumeRunning s).darks = s.darks := by simp [resumeRunning]
@[simp] theorem resumeRunning_tileMap (s : State) : (resumeRunning s).tileMap = s.tileMap := by simp [resumeRunning]
@[simp] theorem resumeRunning_results (s : State) : (resumeRunning s).results = s.results := by simp [resumeRunning]
@[simp] theorem resumeRunning_dram (s : State) : (resumeRunning s).dram = s.dram := by simp [resumeRunning]
@[simp] theorem resumeRunning_free (s : State) : (resumeRunning s).free = s.free := by simp [resumeRunning]
@[simp] theorem resumeRunning_pending (s : State) : (resumeRunning s).pending = s.pending := by simp [resumeRunning]

@[simp] theorem State.onDesc_session (s : State) (i : Fin 6) (f : Descriptor → Descriptor) : (s.onDesc i f).session = s.session := by simp [State.onDesc]
@[simp] theorem State.onDesc_seq (s : State) (i : Fin 6) (f : Descriptor → Descriptor) : (s.onDesc i f).seq = s.seq := by simp [State.onDesc]
@[simp] theorem State.onDesc_port (s : State) (i : Fin 6) (f : Descriptor → Descriptor) : (s.onDesc i f).port = s.port := by simp [State.onDesc]
@[simp] theorem State.onDesc_guidance (s : State) (i : Fin 6) (f : Descriptor → Descriptor) : (s.onDesc i f).guidance = s.guidance := by simp [State.onDesc]
@[simp] theorem State.onDesc_darks (s : State) (i : Fin 6) (f : Descriptor → Descriptor) : (s.onDesc i f).darks = s.darks := by simp [State.onDesc]
@[simp] theorem State.onDesc_tileMap (s : State) (i : Fin 6) (f : Descriptor → Descriptor) : (s.onDesc i f).tileMap = s.tileMap := by simp [State.onDesc]
@[simp] theorem State.onDesc_engine (s : State) (i : Fin 6) (f : Descriptor → Descriptor) : (s.onDesc i f).engine = s.engine := by simp [State.onDesc]
@[simp] theorem State.onDesc_results (s : State) (i : Fin 6) (f : Descriptor → Descriptor) : (s.onDesc i f).results = s.results := by simp [State.onDesc]
@[simp] theorem State.onDesc_power (s : State) (i : Fin 6) (f : Descriptor → Descriptor) : (s.onDesc i f).power = s.power := by simp [State.onDesc]
@[simp] theorem State.onDesc_pLink (s : State) (i : Fin 6) (f : Descriptor → Descriptor) : (s.onDesc i f).pLink = s.pLink := by simp [State.onDesc]
@[simp] theorem State.onDesc_sLink (s : State) (i : Fin 6) (f : Descriptor → Descriptor) : (s.onDesc i f).sLink = s.sLink := by simp [State.onDesc]
@[simp] theorem State.onDesc_lines (s : State) (i : Fin 6) (f : Descriptor → Descriptor) : (s.onDesc i f).lines = s.lines := by simp [State.onDesc]
@[simp] theorem State.onDesc_dram (s : State) (i : Fin 6) (f : Descriptor → Descriptor) : (s.onDesc i f).dram = s.dram := by simp [State.onDesc]
@[simp] theorem State.onDesc_free (s : State) (i : Fin 6) (f : Descriptor → Descriptor) : (s.onDesc i f).free = s.free := by simp [State.onDesc]
@[simp] theorem State.onDesc_pending (s : State) (i : Fin 6) (f : Descriptor → Descriptor) : (s.onDesc i f).pending = s.pending := by simp [State.onDesc]

@[simp] theorem State.emptyRing_session (s : State) : (s.emptyRing).session = s.session := by simp [State.emptyRing]
@[simp] theorem State.emptyRing_seq (s : State) : (s.emptyRing).seq = s.seq := by simp [State.emptyRing]
@[simp] theorem State.emptyRing_port (s : State) : (s.emptyRing).port = s.port := by simp [State.emptyRing]
@[simp] theorem State.emptyRing_guidance (s : State) : (s.emptyRing).guidance = s.guidance := by simp [State.emptyRing]
@[simp] theorem State.emptyRing_darks (s : State) : (s.emptyRing).darks = s.darks := by simp [State.emptyRing]
@[simp] theorem State.emptyRing_tileMap (s : State) : (s.emptyRing).tileMap = s.tileMap := by simp [State.emptyRing]
@[simp] theorem State.emptyRing_engine (s : State) : (s.emptyRing).engine = s.engine := by simp [State.emptyRing]
@[simp] theorem State.emptyRing_results (s : State) : (s.emptyRing).results = s.results := by simp [State.emptyRing]
@[simp] theorem State.emptyRing_power (s : State) : (s.emptyRing).power = s.power := by simp [State.emptyRing]
@[simp] theorem State.emptyRing_pLink (s : State) : (s.emptyRing).pLink = s.pLink := by simp [State.emptyRing]
@[simp] theorem State.emptyRing_sLink (s : State) : (s.emptyRing).sLink = s.sLink := by simp [State.emptyRing]
@[simp] theorem State.emptyRing_lines (s : State) : (s.emptyRing).lines = s.lines := by simp [State.emptyRing]
@[simp] theorem State.emptyRing_dram (s : State) : (s.emptyRing).dram = s.dram := by simp [State.emptyRing]
@[simp] theorem State.emptyRing_free (s : State) : (s.emptyRing).free = s.free := by simp [State.emptyRing]
@[simp] theorem State.emptyRing_pending (s : State) : (s.emptyRing).pending = s.pending := by simp [State.emptyRing]

@[simp] theorem retireRecord_seq (s : State) (i : Fin 6) (o : SubOutcome) (b : Bool) : (retireRecord i o b s).seq = s.seq := by simp [retireRecord]
@[simp] theorem retireRecord_port (s : State) (i : Fin 6) (o : SubOutcome) (b : Bool) : (retireRecord i o b s).port = s.port := by simp [retireRecord]
@[simp] theorem retireRecord_guidance (s : State) (i : Fin 6) (o : SubOutcome) (b : Bool) : (retireRecord i o b s).guidance = s.guidance := by simp [retireRecord]
@[simp] theorem retireRecord_darks (s : State) (i : Fin 6) (o : SubOutcome) (b : Bool) : (retireRecord i o b s).darks = s.darks := by simp [retireRecord]
@[simp] theorem retireRecord_tileMap (s : State) (i : Fin 6) (o : SubOutcome) (b : Bool) : (retireRecord i o b s).tileMap = s.tileMap := by simp [retireRecord]
@[simp] theorem retireRecord_engine (s : State) (i : Fin 6) (o : SubOutcome) (b : Bool) : (retireRecord i o b s).engine = s.engine := by simp [retireRecord]
@[simp] theorem retireRecord_results (s : State) (i : Fin 6) (o : SubOutcome) (b : Bool) : (retireRecord i o b s).results = s.results := by simp [retireRecord]
@[simp] theorem retireRecord_power (s : State) (i : Fin 6) (o : SubOutcome) (b : Bool) : (retireRecord i o b s).power = s.power := by simp [retireRecord]
@[simp] theorem retireRecord_lines (s : State) (i : Fin 6) (o : SubOutcome) (b : Bool) : (retireRecord i o b s).lines = s.lines := by simp [retireRecord]
@[simp] theorem retireRecord_dram (s : State) (i : Fin 6) (o : SubOutcome) (b : Bool) : (retireRecord i o b s).dram = s.dram := by simp [retireRecord]
@[simp] theorem retireRecord_free (s : State) (i : Fin 6) (o : SubOutcome) (b : Bool) : (retireRecord i o b s).free = s.free := by simp [retireRecord]
@[simp] theorem retireRecord_pending (s : State) (i : Fin 6) (o : SubOutcome) (b : Bool) : (retireRecord i o b s).pending = s.pending := by simp [retireRecord]

@[simp] theorem sequencerPause_port (s : State) : (sequencerPause s).port = s.port := by simp only [sequencerPause]; (repeat' split) <;> simp
@[simp] theorem sequencerPause_guidance (s : State) : (sequencerPause s).guidance = s.guidance := by simp only [sequencerPause]; (repeat' split) <;> simp
@[simp] theorem sequencerPause_darks (s : State) : (sequencerPause s).darks = s.darks := by simp only [sequencerPause]; (repeat' split) <;> simp
@[simp] theorem sequencerPause_tileMap (s : State) : (sequencerPause s).tileMap = s.tileMap := by simp only [sequencerPause]; (repeat' split) <;> simp
@[simp] theorem sequencerPause_engine (s : State) : (sequencerPause s).engine = s.engine := by simp only [sequencerPause]; (repeat' split) <;> simp
@[simp] theorem sequencerPause_results (s : State) : (sequencerPause s).results = s.results := by simp only [sequencerPause]; (repeat' split) <;> simp
@[simp] theorem sequencerPause_power (s : State) : (sequencerPause s).power = s.power := by simp only [sequencerPause]; (repeat' split) <;> simp
@[simp] theorem sequencerPause_dram (s : State) : (sequencerPause s).dram = s.dram := by simp only [sequencerPause]; (repeat' split) <;> simp
@[simp] theorem sequencerPause_free (s : State) : (sequencerPause s).free = s.free := by simp only [sequencerPause]; (repeat' split) <;> simp
@[simp] theorem sequencerPause_pending (s : State) : (sequencerPause s).pending = s.pending := by simp only [sequencerPause]; (repeat' split) <;> simp

@[simp] theorem pauseSession_port (s : State) (c : PauseCause) : (pauseSession c s).port = s.port := by simp [pauseSession]
@[simp] theorem pauseSession_guidance (s : State) (c : PauseCause) : (pauseSession c s).guidance = s.guidance := by simp [pauseSession]
@[simp] theorem pauseSession_darks (s : State) (c : PauseCause) : (pauseSession c s).darks = s.darks := by simp [pauseSession]
@[simp] theorem pauseSession_tileMap (s : State) (c : PauseCause) : (pauseSession c s).tileMap = s.tileMap := by simp [pauseSession]
@[simp] theorem pauseSession_engine (s : State) (c : PauseCause) : (pauseSession c s).engine = s.engine := by simp [pauseSession]
@[simp] theorem pauseSession_results (s : State) (c : PauseCause) : (pauseSession c s).results = s.results := by simp [pauseSession]
@[simp] theorem pauseSession_power (s : State) (c : PauseCause) : (pauseSession c s).power = s.power := by simp [pauseSession]
@[simp] theorem pauseSession_dram (s : State) (c : PauseCause) : (pauseSession c s).dram = s.dram := by simp [pauseSession]
@[simp] theorem pauseSession_free (s : State) (c : PauseCause) : (pauseSession c s).free = s.free := by simp [pauseSession]
@[simp] theorem pauseSession_pending (s : State) (c : PauseCause) : (pauseSession c s).pending = s.pending := by simp [pauseSession]

@[simp] theorem counterPause_port (s : State) (o : SubOutcome) : (counterPause o s).port = s.port := by simp only [counterPause]; (repeat' split) <;> simp
@[simp] theorem counterPause_guidance (s : State) (o : SubOutcome) : (counterPause o s).guidance = s.guidance := by simp only [counterPause]; (repeat' split) <;> simp
@[simp] theorem counterPause_darks (s : State) (o : SubOutcome) : (counterPause o s).darks = s.darks := by simp only [counterPause]; (repeat' split) <;> simp
@[simp] theorem counterPause_tileMap (s : State) (o : SubOutcome) : (counterPause o s).tileMap = s.tileMap := by simp only [counterPause]; (repeat' split) <;> simp
@[simp] theorem counterPause_engine (s : State) (o : SubOutcome) : (counterPause o s).engine = s.engine := by simp only [counterPause]; (repeat' split) <;> simp
@[simp] theorem counterPause_results (s : State) (o : SubOutcome) : (counterPause o s).results = s.results := by simp only [counterPause]; (repeat' split) <;> simp
@[simp] theorem counterPause_power (s : State) (o : SubOutcome) : (counterPause o s).power = s.power := by simp only [counterPause]; (repeat' split) <;> simp
@[simp] theorem counterPause_dram (s : State) (o : SubOutcome) : (counterPause o s).dram = s.dram := by simp only [counterPause]; (repeat' split) <;> simp
@[simp] theorem counterPause_free (s : State) (o : SubOutcome) : (counterPause o s).free = s.free := by simp only [counterPause]; (repeat' split) <;> simp
@[simp] theorem counterPause_pending (s : State) (o : SubOutcome) : (counterPause o s).pending = s.pending := by simp only [counterPause]; (repeat' split) <;> simp

@[simp] theorem retire_port (s : State) (i : Fin 6) (o : SubOutcome) (b : Bool) : (retire i o b s).port = s.port := by simp [retire]
@[simp] theorem retire_guidance (s : State) (i : Fin 6) (o : SubOutcome) (b : Bool) : (retire i o b s).guidance = s.guidance := by simp [retire]
@[simp] theorem retire_darks (s : State) (i : Fin 6) (o : SubOutcome) (b : Bool) : (retire i o b s).darks = s.darks := by simp [retire]
@[simp] theorem retire_tileMap (s : State) (i : Fin 6) (o : SubOutcome) (b : Bool) : (retire i o b s).tileMap = s.tileMap := by simp [retire]
@[simp] theorem retire_results (s : State) (i : Fin 6) (o : SubOutcome) (b : Bool) : (retire i o b s).results = s.results := by simp [retire]
@[simp] theorem retire_dram (s : State) (i : Fin 6) (o : SubOutcome) (b : Bool) : (retire i o b s).dram = s.dram := by simp [retire]
@[simp] theorem retire_free (s : State) (i : Fin 6) (o : SubOutcome) (b : Bool) : (retire i o b s).free = s.free := by simp [retire]
@[simp] theorem retire_pending (s : State) (i : Fin 6) (o : SubOutcome) (b : Bool) : (retire i o b s).pending = s.pending := by simp [retire]

@[simp] theorem openIn_port (s : State) (i : Fin 6) (k : SubKind) : (openIn i k s).port = s.port := by simp only [openIn]; (repeat' split) <;> simp
@[simp] theorem openIn_guidance (s : State) (i : Fin 6) (k : SubKind) : (openIn i k s).guidance = s.guidance := by simp only [openIn]; (repeat' split) <;> simp
@[simp] theorem openIn_darks (s : State) (i : Fin 6) (k : SubKind) : (openIn i k s).darks = s.darks := by simp only [openIn]; (repeat' split) <;> simp
@[simp] theorem openIn_tileMap (s : State) (i : Fin 6) (k : SubKind) : (openIn i k s).tileMap = s.tileMap := by simp only [openIn]; (repeat' split) <;> simp
@[simp] theorem openIn_engine (s : State) (i : Fin 6) (k : SubKind) : (openIn i k s).engine = s.engine := by simp only [openIn]; (repeat' split) <;> simp
@[simp] theorem openIn_results (s : State) (i : Fin 6) (k : SubKind) : (openIn i k s).results = s.results := by simp only [openIn]; (repeat' split) <;> simp
@[simp] theorem openIn_dram (s : State) (i : Fin 6) (k : SubKind) : (openIn i k s).dram = s.dram := by simp only [openIn]; (repeat' split) <;> simp
@[simp] theorem openIn_free (s : State) (i : Fin 6) (k : SubKind) : (openIn i k s).free = s.free := by simp only [openIn]; (repeat' split) <;> simp
@[simp] theorem openIn_pending (s : State) (i : Fin 6) (k : SubKind) : (openIn i k s).pending = s.pending := by simp only [openIn]; (repeat' split) <;> simp

@[simp] theorem openSub_port (s : State) (k : SubKind) : (openSub k s).port = s.port := by simp only [openSub]; split <;> simp
@[simp] theorem openSub_guidance (s : State) (k : SubKind) : (openSub k s).guidance = s.guidance := by simp only [openSub]; split <;> simp
@[simp] theorem openSub_darks (s : State) (k : SubKind) : (openSub k s).darks = s.darks := by simp only [openSub]; split <;> simp
@[simp] theorem openSub_tileMap (s : State) (k : SubKind) : (openSub k s).tileMap = s.tileMap := by simp only [openSub]; split <;> simp
@[simp] theorem openSub_results (s : State) (k : SubKind) : (openSub k s).results = s.results := by simp only [openSub]; split <;> simp
@[simp] theorem openSub_dram (s : State) (k : SubKind) : (openSub k s).dram = s.dram := by simp only [openSub]; split <;> simp
@[simp] theorem openSub_free (s : State) (k : SubKind) : (openSub k s).free = s.free := by simp only [openSub]; split <;> simp
@[simp] theorem openSub_pending (s : State) (k : SubKind) : (openSub k s).pending = s.pending := by simp only [openSub]; split <;> simp

@[simp] theorem cadenceAfterNoSub_session (s : State) : (cadenceAfterNoSub s).session = s.session := by simp [cadenceAfterNoSub]
@[simp] theorem cadenceAfterNoSub_port (s : State) : (cadenceAfterNoSub s).port = s.port := by simp [cadenceAfterNoSub]
@[simp] theorem cadenceAfterNoSub_ring (s : State) : (cadenceAfterNoSub s).ring = s.ring := by simp [cadenceAfterNoSub]
@[simp] theorem cadenceAfterNoSub_guidance (s : State) : (cadenceAfterNoSub s).guidance = s.guidance := by simp [cadenceAfterNoSub]
@[simp] theorem cadenceAfterNoSub_darks (s : State) : (cadenceAfterNoSub s).darks = s.darks := by simp [cadenceAfterNoSub]
@[simp] theorem cadenceAfterNoSub_tileMap (s : State) : (cadenceAfterNoSub s).tileMap = s.tileMap := by simp [cadenceAfterNoSub]
@[simp] theorem cadenceAfterNoSub_engine (s : State) : (cadenceAfterNoSub s).engine = s.engine := by simp [cadenceAfterNoSub]
@[simp] theorem cadenceAfterNoSub_results (s : State) : (cadenceAfterNoSub s).results = s.results := by simp [cadenceAfterNoSub]
@[simp] theorem cadenceAfterNoSub_power (s : State) : (cadenceAfterNoSub s).power = s.power := by simp [cadenceAfterNoSub]
@[simp] theorem cadenceAfterNoSub_pLink (s : State) : (cadenceAfterNoSub s).pLink = s.pLink := by simp [cadenceAfterNoSub]
@[simp] theorem cadenceAfterNoSub_sLink (s : State) : (cadenceAfterNoSub s).sLink = s.sLink := by simp [cadenceAfterNoSub]
@[simp] theorem cadenceAfterNoSub_lines (s : State) : (cadenceAfterNoSub s).lines = s.lines := by simp [cadenceAfterNoSub]
@[simp] theorem cadenceAfterNoSub_dram (s : State) : (cadenceAfterNoSub s).dram = s.dram := by simp [cadenceAfterNoSub]
@[simp] theorem cadenceAfterNoSub_free (s : State) : (cadenceAfterNoSub s).free = s.free := by simp [cadenceAfterNoSub]
@[simp] theorem cadenceAfterNoSub_pending (s : State) : (cadenceAfterNoSub s).pending = s.pending := by simp [cadenceAfterNoSub]

@[simp] theorem beginHandshake_port (s : State) : (beginHandshake s).port = s.port := by simp only [beginHandshake]; split <;> simp
@[simp] theorem beginHandshake_guidance (s : State) : (beginHandshake s).guidance = s.guidance := by simp only [beginHandshake]; split <;> simp
@[simp] theorem beginHandshake_darks (s : State) : (beginHandshake s).darks = s.darks := by simp only [beginHandshake]; split <;> simp
@[simp] theorem beginHandshake_tileMap (s : State) : (beginHandshake s).tileMap = s.tileMap := by simp only [beginHandshake]; split <;> simp
@[simp] theorem beginHandshake_results (s : State) : (beginHandshake s).results = s.results := by simp only [beginHandshake]; split <;> simp
@[simp] theorem beginHandshake_dram (s : State) : (beginHandshake s).dram = s.dram := by simp only [beginHandshake]; split <;> simp
@[simp] theorem beginHandshake_free (s : State) : (beginHandshake s).free = s.free := by simp only [beginHandshake]; split <;> simp
@[simp] theorem beginHandshake_pending (s : State) : (beginHandshake s).pending = s.pending := by simp only [beginHandshake]; split <;> simp

@[simp] theorem skipStart_port (s : State) : (skipStart s).port = s.port := by simp [skipStart]
@[simp] theorem skipStart_ring (s : State) : (skipStart s).ring = s.ring := by simp [skipStart]
@[simp] theorem skipStart_guidance (s : State) : (skipStart s).guidance = s.guidance := by simp [skipStart]
@[simp] theorem skipStart_darks (s : State) : (skipStart s).darks = s.darks := by simp [skipStart]
@[simp] theorem skipStart_tileMap (s : State) : (skipStart s).tileMap = s.tileMap := by simp [skipStart]
@[simp] theorem skipStart_engine (s : State) : (skipStart s).engine = s.engine := by simp [skipStart]
@[simp] theorem skipStart_results (s : State) : (skipStart s).results = s.results := by simp [skipStart]
@[simp] theorem skipStart_power (s : State) : (skipStart s).power = s.power := by simp [skipStart]
@[simp] theorem skipStart_lines (s : State) : (skipStart s).lines = s.lines := by simp [skipStart]
@[simp] theorem skipStart_dram (s : State) : (skipStart s).dram = s.dram := by simp [skipStart]
@[simp] theorem skipStart_free (s : State) : (skipStart s).free = s.free := by simp [skipStart]
@[simp] theorem skipStart_pending (s : State) : (skipStart s).pending = s.pending := by simp [skipStart]

@[simp] theorem startSub_port (s : State) : (startSub s).port = s.port := by simp only [startSub]; (repeat' split) <;> simp
@[simp] theorem startSub_guidance (s : State) : (startSub s).guidance = s.guidance := by simp only [startSub]; (repeat' split) <;> simp
@[simp] theorem startSub_darks (s : State) : (startSub s).darks = s.darks := by simp only [startSub]; (repeat' split) <;> simp
@[simp] theorem startSub_tileMap (s : State) : (startSub s).tileMap = s.tileMap := by simp only [startSub]; (repeat' split) <;> simp
@[simp] theorem startSub_results (s : State) : (startSub s).results = s.results := by simp only [startSub]; (repeat' split) <;> simp
@[simp] theorem startSub_dram (s : State) : (startSub s).dram = s.dram := by simp only [startSub]; (repeat' split) <;> simp
@[simp] theorem startSub_free (s : State) : (startSub s).free = s.free := by simp only [startSub]; (repeat' split) <;> simp
@[simp] theorem startSub_pending (s : State) : (startSub s).pending = s.pending := by simp only [startSub]; (repeat' split) <;> simp

@[simp] theorem makeStart_port (s : State) : (makeStart s).port = s.port := by simp only [makeStart]; (repeat' split) <;> simp
@[simp] theorem makeStart_guidance (s : State) : (makeStart s).guidance = s.guidance := by simp only [makeStart]; (repeat' split) <;> simp
@[simp] theorem makeStart_darks (s : State) : (makeStart s).darks = s.darks := by simp only [makeStart]; (repeat' split) <;> simp
@[simp] theorem makeStart_tileMap (s : State) : (makeStart s).tileMap = s.tileMap := by simp only [makeStart]; (repeat' split) <;> simp
@[simp] theorem makeStart_results (s : State) : (makeStart s).results = s.results := by simp only [makeStart]; (repeat' split) <;> simp
@[simp] theorem makeStart_dram (s : State) : (makeStart s).dram = s.dram := by simp only [makeStart]; (repeat' split) <;> simp
@[simp] theorem makeStart_free (s : State) : (makeStart s).free = s.free := by simp only [makeStart]; (repeat' split) <;> simp
@[simp] theorem makeStart_pending (s : State) : (makeStart s).pending = s.pending := by simp only [makeStart]; (repeat' split) <;> simp

@[simp] theorem endExposure_session (s : State) (c : CurrentExposure) : (endExposure c s).session = s.session := by simp only [endExposure]; (repeat' split) <;> simp
@[simp] theorem endExposure_guidance (s : State) (c : CurrentExposure) : (endExposure c s).guidance = s.guidance := by simp only [endExposure]; (repeat' split) <;> simp
@[simp] theorem endExposure_darks (s : State) (c : CurrentExposure) : (endExposure c s).darks = s.darks := by simp only [endExposure]; (repeat' split) <;> simp
@[simp] theorem endExposure_tileMap (s : State) (c : CurrentExposure) : (endExposure c s).tileMap = s.tileMap := by simp only [endExposure]; (repeat' split) <;> simp
@[simp] theorem endExposure_engine (s : State) (c : CurrentExposure) : (endExposure c s).engine = s.engine := by simp only [endExposure]; (repeat' split) <;> simp
@[simp] theorem endExposure_results (s : State) (c : CurrentExposure) : (endExposure c s).results = s.results := by simp only [endExposure]; (repeat' split) <;> simp
@[simp] theorem endExposure_power (s : State) (c : CurrentExposure) : (endExposure c s).power = s.power := by simp only [endExposure]; (repeat' split) <;> simp
@[simp] theorem endExposure_pLink (s : State) (c : CurrentExposure) : (endExposure c s).pLink = s.pLink := by simp only [endExposure]; (repeat' split) <;> simp
@[simp] theorem endExposure_sLink (s : State) (c : CurrentExposure) : (endExposure c s).sLink = s.sLink := by simp only [endExposure]; (repeat' split) <;> simp
@[simp] theorem endExposure_dram (s : State) (c : CurrentExposure) : (endExposure c s).dram = s.dram := by simp only [endExposure]; (repeat' split) <;> simp
@[simp] theorem endExposure_free (s : State) (c : CurrentExposure) : (endExposure c s).free = s.free := by simp only [endExposure]; (repeat' split) <;> simp
@[simp] theorem endExposure_pending (s : State) (c : CurrentExposure) : (endExposure c s).pending = s.pending := by simp only [endExposure]; (repeat' split) <;> simp

@[simp] theorem State.onSlot_session (s : State) (i : Fin 4) (f : DarkSlot → DarkSlot) : (s.onSlot i f).session = s.session := by simp [State.onSlot]
@[simp] theorem State.onSlot_seq (s : State) (i : Fin 4) (f : DarkSlot → DarkSlot) : (s.onSlot i f).seq = s.seq := by simp [State.onSlot]
@[simp] theorem State.onSlot_port (s : State) (i : Fin 4) (f : DarkSlot → DarkSlot) : (s.onSlot i f).port = s.port := by simp [State.onSlot]
@[simp] theorem State.onSlot_ring (s : State) (i : Fin 4) (f : DarkSlot → DarkSlot) : (s.onSlot i f).ring = s.ring := by simp [State.onSlot]
@[simp] theorem State.onSlot_guidance (s : State) (i : Fin 4) (f : DarkSlot → DarkSlot) : (s.onSlot i f).guidance = s.guidance := by simp [State.onSlot]
@[simp] theorem State.onSlot_tileMap (s : State) (i : Fin 4) (f : DarkSlot → DarkSlot) : (s.onSlot i f).tileMap = s.tileMap := by simp [State.onSlot]
@[simp] theorem State.onSlot_engine (s : State) (i : Fin 4) (f : DarkSlot → DarkSlot) : (s.onSlot i f).engine = s.engine := by simp [State.onSlot]
@[simp] theorem State.onSlot_results (s : State) (i : Fin 4) (f : DarkSlot → DarkSlot) : (s.onSlot i f).results = s.results := by simp [State.onSlot]
@[simp] theorem State.onSlot_power (s : State) (i : Fin 4) (f : DarkSlot → DarkSlot) : (s.onSlot i f).power = s.power := by simp [State.onSlot]
@[simp] theorem State.onSlot_pLink (s : State) (i : Fin 4) (f : DarkSlot → DarkSlot) : (s.onSlot i f).pLink = s.pLink := by simp [State.onSlot]
@[simp] theorem State.onSlot_sLink (s : State) (i : Fin 4) (f : DarkSlot → DarkSlot) : (s.onSlot i f).sLink = s.sLink := by simp [State.onSlot]
@[simp] theorem State.onSlot_lines (s : State) (i : Fin 4) (f : DarkSlot → DarkSlot) : (s.onSlot i f).lines = s.lines := by simp [State.onSlot]
@[simp] theorem State.onSlot_dram (s : State) (i : Fin 4) (f : DarkSlot → DarkSlot) : (s.onSlot i f).dram = s.dram := by simp [State.onSlot]
@[simp] theorem State.onSlot_free (s : State) (i : Fin 4) (f : DarkSlot → DarkSlot) : (s.onSlot i f).free = s.free := by simp [State.onSlot]
@[simp] theorem State.onSlot_pending (s : State) (i : Fin 4) (f : DarkSlot → DarkSlot) : (s.onSlot i f).pending = s.pending := by simp [State.onSlot]

@[simp] theorem emptySlot_session (s : State) (i : Fin 4) : (emptySlot i s).session = s.session := by simp [emptySlot]
@[simp] theorem emptySlot_seq (s : State) (i : Fin 4) : (emptySlot i s).seq = s.seq := by simp [emptySlot]
@[simp] theorem emptySlot_port (s : State) (i : Fin 4) : (emptySlot i s).port = s.port := by simp [emptySlot]
@[simp] theorem emptySlot_ring (s : State) (i : Fin 4) : (emptySlot i s).ring = s.ring := by simp [emptySlot]
@[simp] theorem emptySlot_guidance (s : State) (i : Fin 4) : (emptySlot i s).guidance = s.guidance := by simp [emptySlot]
@[simp] theorem emptySlot_tileMap (s : State) (i : Fin 4) : (emptySlot i s).tileMap = s.tileMap := by simp [emptySlot]
@[simp] theorem emptySlot_engine (s : State) (i : Fin 4) : (emptySlot i s).engine = s.engine := by simp [emptySlot]
@[simp] theorem emptySlot_results (s : State) (i : Fin 4) : (emptySlot i s).results = s.results := by simp [emptySlot]
@[simp] theorem emptySlot_power (s : State) (i : Fin 4) : (emptySlot i s).power = s.power := by simp [emptySlot]
@[simp] theorem emptySlot_pLink (s : State) (i : Fin 4) : (emptySlot i s).pLink = s.pLink := by simp [emptySlot]
@[simp] theorem emptySlot_sLink (s : State) (i : Fin 4) : (emptySlot i s).sLink = s.sLink := by simp [emptySlot]
@[simp] theorem emptySlot_lines (s : State) (i : Fin 4) : (emptySlot i s).lines = s.lines := by simp [emptySlot]
@[simp] theorem emptySlot_dram (s : State) (i : Fin 4) : (emptySlot i s).dram = s.dram := by simp [emptySlot]
@[simp] theorem emptySlot_free (s : State) (i : Fin 4) : (emptySlot i s).free = s.free := by simp [emptySlot]
@[simp] theorem emptySlot_pending (s : State) (i : Fin 4) : (emptySlot i s).pending = s.pending := by simp [emptySlot]

@[simp] theorem touchSlot_session (s : State) (i : Fin 4) (n : Nat) : (touchSlot i n s).session = s.session := by simp [touchSlot]
@[simp] theorem touchSlot_seq (s : State) (i : Fin 4) (n : Nat) : (touchSlot i n s).seq = s.seq := by simp [touchSlot]
@[simp] theorem touchSlot_port (s : State) (i : Fin 4) (n : Nat) : (touchSlot i n s).port = s.port := by simp [touchSlot]
@[simp] theorem touchSlot_ring (s : State) (i : Fin 4) (n : Nat) : (touchSlot i n s).ring = s.ring := by simp [touchSlot]
@[simp] theorem touchSlot_guidance (s : State) (i : Fin 4) (n : Nat) : (touchSlot i n s).guidance = s.guidance := by simp [touchSlot]
@[simp] theorem touchSlot_tileMap (s : State) (i : Fin 4) (n : Nat) : (touchSlot i n s).tileMap = s.tileMap := by simp [touchSlot]
@[simp] theorem touchSlot_engine (s : State) (i : Fin 4) (n : Nat) : (touchSlot i n s).engine = s.engine := by simp [touchSlot]
@[simp] theorem touchSlot_results (s : State) (i : Fin 4) (n : Nat) : (touchSlot i n s).results = s.results := by simp [touchSlot]
@[simp] theorem touchSlot_power (s : State) (i : Fin 4) (n : Nat) : (touchSlot i n s).power = s.power := by simp [touchSlot]
@[simp] theorem touchSlot_pLink (s : State) (i : Fin 4) (n : Nat) : (touchSlot i n s).pLink = s.pLink := by simp [touchSlot]
@[simp] theorem touchSlot_sLink (s : State) (i : Fin 4) (n : Nat) : (touchSlot i n s).sLink = s.sLink := by simp [touchSlot]
@[simp] theorem touchSlot_lines (s : State) (i : Fin 4) (n : Nat) : (touchSlot i n s).lines = s.lines := by simp [touchSlot]
@[simp] theorem touchSlot_dram (s : State) (i : Fin 4) (n : Nat) : (touchSlot i n s).dram = s.dram := by simp [touchSlot]
@[simp] theorem touchSlot_free (s : State) (i : Fin 4) (n : Nat) : (touchSlot i n s).free = s.free := by simp [touchSlot]
@[simp] theorem touchSlot_pending (s : State) (i : Fin 4) (n : Nat) : (touchSlot i n s).pending = s.pending := by simp [touchSlot]

@[simp] theorem emptyLibrary_session (s : State) : (emptyLibrary s).session = s.session := by simp [emptyLibrary]
@[simp] theorem emptyLibrary_seq (s : State) : (emptyLibrary s).seq = s.seq := by simp [emptyLibrary]
@[simp] theorem emptyLibrary_port (s : State) : (emptyLibrary s).port = s.port := by simp [emptyLibrary]
@[simp] theorem emptyLibrary_ring (s : State) : (emptyLibrary s).ring = s.ring := by simp [emptyLibrary]
@[simp] theorem emptyLibrary_guidance (s : State) : (emptyLibrary s).guidance = s.guidance := by simp [emptyLibrary]
@[simp] theorem emptyLibrary_tileMap (s : State) : (emptyLibrary s).tileMap = s.tileMap := by simp [emptyLibrary]
@[simp] theorem emptyLibrary_engine (s : State) : (emptyLibrary s).engine = s.engine := by simp [emptyLibrary]
@[simp] theorem emptyLibrary_results (s : State) : (emptyLibrary s).results = s.results := by simp [emptyLibrary]
@[simp] theorem emptyLibrary_power (s : State) : (emptyLibrary s).power = s.power := by simp [emptyLibrary]
@[simp] theorem emptyLibrary_pLink (s : State) : (emptyLibrary s).pLink = s.pLink := by simp [emptyLibrary]
@[simp] theorem emptyLibrary_sLink (s : State) : (emptyLibrary s).sLink = s.sLink := by simp [emptyLibrary]
@[simp] theorem emptyLibrary_lines (s : State) : (emptyLibrary s).lines = s.lines := by simp [emptyLibrary]
@[simp] theorem emptyLibrary_dram (s : State) : (emptyLibrary s).dram = s.dram := by simp [emptyLibrary]
@[simp] theorem emptyLibrary_free (s : State) : (emptyLibrary s).free = s.free := by simp [emptyLibrary]
@[simp] theorem emptyLibrary_pending (s : State) : (emptyLibrary s).pending = s.pending := by simp [emptyLibrary]

@[simp] theorem freeEngine_session (s : State) : (freeEngine s).session = s.session := by simp [freeEngine]
@[simp] theorem freeEngine_seq (s : State) : (freeEngine s).seq = s.seq := by simp [freeEngine]
@[simp] theorem freeEngine_port (s : State) : (freeEngine s).port = s.port := by simp [freeEngine]
@[simp] theorem freeEngine_ring (s : State) : (freeEngine s).ring = s.ring := by simp [freeEngine]
@[simp] theorem freeEngine_guidance (s : State) : (freeEngine s).guidance = s.guidance := by simp [freeEngine]
@[simp] theorem freeEngine_darks (s : State) : (freeEngine s).darks = s.darks := by simp [freeEngine]
@[simp] theorem freeEngine_tileMap (s : State) : (freeEngine s).tileMap = s.tileMap := by simp [freeEngine]
@[simp] theorem freeEngine_results (s : State) : (freeEngine s).results = s.results := by simp [freeEngine]
@[simp] theorem freeEngine_power (s : State) : (freeEngine s).power = s.power := by simp [freeEngine]
@[simp] theorem freeEngine_pLink (s : State) : (freeEngine s).pLink = s.pLink := by simp [freeEngine]
@[simp] theorem freeEngine_sLink (s : State) : (freeEngine s).sLink = s.sLink := by simp [freeEngine]
@[simp] theorem freeEngine_lines (s : State) : (freeEngine s).lines = s.lines := by simp [freeEngine]
@[simp] theorem freeEngine_dram (s : State) : (freeEngine s).dram = s.dram := by simp [freeEngine]
@[simp] theorem freeEngine_free (s : State) : (freeEngine s).free = s.free := by simp [freeEngine]
@[simp] theorem freeEngine_pending (s : State) : (freeEngine s).pending = s.pending := by simp [freeEngine]

@[simp] theorem clearInUse_session (s : State) : (clearInUse s).session = s.session := by simp [clearInUse]
@[simp] theorem clearInUse_seq (s : State) : (clearInUse s).seq = s.seq := by simp [clearInUse]
@[simp] theorem clearInUse_port (s : State) : (clearInUse s).port = s.port := by simp [clearInUse]
@[simp] theorem clearInUse_ring (s : State) : (clearInUse s).ring = s.ring := by simp [clearInUse]
@[simp] theorem clearInUse_guidance (s : State) : (clearInUse s).guidance = s.guidance := by simp [clearInUse]
@[simp] theorem clearInUse_tileMap (s : State) : (clearInUse s).tileMap = s.tileMap := by simp [clearInUse]
@[simp] theorem clearInUse_engine (s : State) : (clearInUse s).engine = s.engine := by simp [clearInUse]
@[simp] theorem clearInUse_results (s : State) : (clearInUse s).results = s.results := by simp [clearInUse]
@[simp] theorem clearInUse_power (s : State) : (clearInUse s).power = s.power := by simp [clearInUse]
@[simp] theorem clearInUse_pLink (s : State) : (clearInUse s).pLink = s.pLink := by simp [clearInUse]
@[simp] theorem clearInUse_sLink (s : State) : (clearInUse s).sLink = s.sLink := by simp [clearInUse]
@[simp] theorem clearInUse_lines (s : State) : (clearInUse s).lines = s.lines := by simp [clearInUse]
@[simp] theorem clearInUse_dram (s : State) : (clearInUse s).dram = s.dram := by simp [clearInUse]
@[simp] theorem clearInUse_free (s : State) : (clearInUse s).free = s.free := by simp [clearInUse]
@[simp] theorem clearInUse_pending (s : State) : (clearInUse s).pending = s.pending := by simp [clearInUse]

@[simp] theorem giveUpMergeTarget_session (s : State) : (giveUpMergeTarget s).session = s.session := by simp only [giveUpMergeTarget]; split <;> simp
@[simp] theorem giveUpMergeTarget_seq (s : State) : (giveUpMergeTarget s).seq = s.seq := by simp only [giveUpMergeTarget]; split <;> simp
@[simp] theorem giveUpMergeTarget_port (s : State) : (giveUpMergeTarget s).port = s.port := by simp only [giveUpMergeTarget]; split <;> simp
@[simp] theorem giveUpMergeTarget_ring (s : State) : (giveUpMergeTarget s).ring = s.ring := by simp only [giveUpMergeTarget]; split <;> simp
@[simp] theorem giveUpMergeTarget_guidance (s : State) : (giveUpMergeTarget s).guidance = s.guidance := by simp only [giveUpMergeTarget]; split <;> simp
@[simp] theorem giveUpMergeTarget_tileMap (s : State) : (giveUpMergeTarget s).tileMap = s.tileMap := by simp only [giveUpMergeTarget]; split <;> simp
@[simp] theorem giveUpMergeTarget_engine (s : State) : (giveUpMergeTarget s).engine = s.engine := by simp only [giveUpMergeTarget]; split <;> simp
@[simp] theorem giveUpMergeTarget_results (s : State) : (giveUpMergeTarget s).results = s.results := by simp only [giveUpMergeTarget]; split <;> simp
@[simp] theorem giveUpMergeTarget_power (s : State) : (giveUpMergeTarget s).power = s.power := by simp only [giveUpMergeTarget]; split <;> simp
@[simp] theorem giveUpMergeTarget_pLink (s : State) : (giveUpMergeTarget s).pLink = s.pLink := by simp only [giveUpMergeTarget]; split <;> simp
@[simp] theorem giveUpMergeTarget_sLink (s : State) : (giveUpMergeTarget s).sLink = s.sLink := by simp only [giveUpMergeTarget]; split <;> simp
@[simp] theorem giveUpMergeTarget_lines (s : State) : (giveUpMergeTarget s).lines = s.lines := by simp only [giveUpMergeTarget]; split <;> simp
@[simp] theorem giveUpMergeTarget_dram (s : State) : (giveUpMergeTarget s).dram = s.dram := by simp only [giveUpMergeTarget]; split <;> simp
@[simp] theorem giveUpMergeTarget_free (s : State) : (giveUpMergeTarget s).free = s.free := by simp only [giveUpMergeTarget]; split <;> simp
@[simp] theorem giveUpMergeTarget_pending (s : State) : (giveUpMergeTarget s).pending = s.pending := by simp only [giveUpMergeTarget]; split <;> simp

@[simp] theorem holdStop_port (s : State) : (holdStop s).port = s.port := by simp only [holdStop]; (repeat' split) <;> simp
@[simp] theorem holdStop_guidance (s : State) : (holdStop s).guidance = s.guidance := by simp only [holdStop]; (repeat' split) <;> simp
@[simp] theorem holdStop_tileMap (s : State) : (holdStop s).tileMap = s.tileMap := by simp only [holdStop]; (repeat' split) <;> simp
@[simp] theorem holdStop_dram (s : State) : (holdStop s).dram = s.dram := by simp only [holdStop]; (repeat' split) <;> simp
@[simp] theorem holdStop_free (s : State) : (holdStop s).free = s.free := by simp only [holdStop]; (repeat' split) <;> simp
@[simp] theorem holdStop_pending (s : State) : (holdStop s).pending = s.pending := by simp only [holdStop]; (repeat' split) <;> simp

@[simp] theorem closeStop_session (s : State) : (closeStop s).session = s.session := by simp [closeStop]
@[simp] theorem closeStop_seq (s : State) : (closeStop s).seq = s.seq := by simp [closeStop]
@[simp] theorem closeStop_port (s : State) : (closeStop s).port = s.port := by simp [closeStop]
@[simp] theorem closeStop_ring (s : State) : (closeStop s).ring = s.ring := by simp [closeStop]
@[simp] theorem closeStop_guidance (s : State) : (closeStop s).guidance = s.guidance := by simp [closeStop]
@[simp] theorem closeStop_tileMap (s : State) : (closeStop s).tileMap = s.tileMap := by simp [closeStop]
@[simp] theorem closeStop_results (s : State) : (closeStop s).results = s.results := by simp [closeStop]
@[simp] theorem closeStop_power (s : State) : (closeStop s).power = s.power := by simp [closeStop]
@[simp] theorem closeStop_pLink (s : State) : (closeStop s).pLink = s.pLink := by simp [closeStop]
@[simp] theorem closeStop_sLink (s : State) : (closeStop s).sLink = s.sLink := by simp [closeStop]
@[simp] theorem closeStop_lines (s : State) : (closeStop s).lines = s.lines := by simp [closeStop]
@[simp] theorem closeStop_dram (s : State) : (closeStop s).dram = s.dram := by simp [closeStop]
@[simp] theorem closeStop_free (s : State) : (closeStop s).free = s.free := by simp [closeStop]
@[simp] theorem closeStop_pending (s : State) : (closeStop s).pending = s.pending := by simp [closeStop]

@[simp] theorem takeStop_port (s : State) : (takeStop s).port = s.port := by simp only [takeStop]; split <;> simp
@[simp] theorem takeStop_guidance (s : State) : (takeStop s).guidance = s.guidance := by simp only [takeStop]; split <;> simp
@[simp] theorem takeStop_tileMap (s : State) : (takeStop s).tileMap = s.tileMap := by simp only [takeStop]; split <;> simp
@[simp] theorem takeStop_dram (s : State) : (takeStop s).dram = s.dram := by simp only [takeStop]; split <;> simp
@[simp] theorem takeStop_free (s : State) : (takeStop s).free = s.free := by simp only [takeStop]; split <;> simp
@[simp] theorem takeStop_pending (s : State) : (takeStop s).pending = s.pending := by simp only [takeStop]; split <;> simp

@[simp] theorem endJob_session (s : State) : (endJob s).session = s.session := by simp [endJob]
@[simp] theorem endJob_seq (s : State) : (endJob s).seq = s.seq := by simp [endJob]
@[simp] theorem endJob_port (s : State) : (endJob s).port = s.port := by simp [endJob]
@[simp] theorem endJob_ring (s : State) : (endJob s).ring = s.ring := by simp [endJob]
@[simp] theorem endJob_guidance (s : State) : (endJob s).guidance = s.guidance := by simp [endJob]
@[simp] theorem endJob_darks (s : State) : (endJob s).darks = s.darks := by simp [endJob]
@[simp] theorem endJob_tileMap (s : State) : (endJob s).tileMap = s.tileMap := by simp [endJob]
@[simp] theorem endJob_results (s : State) : (endJob s).results = s.results := by simp [endJob]
@[simp] theorem endJob_power (s : State) : (endJob s).power = s.power := by simp [endJob]
@[simp] theorem endJob_pLink (s : State) : (endJob s).pLink = s.pLink := by simp [endJob]
@[simp] theorem endJob_sLink (s : State) : (endJob s).sLink = s.sLink := by simp [endJob]
@[simp] theorem endJob_lines (s : State) : (endJob s).lines = s.lines := by simp [endJob]
@[simp] theorem endJob_dram (s : State) : (endJob s).dram = s.dram := by simp [endJob]
@[simp] theorem endJob_free (s : State) : (endJob s).free = s.free := by simp [endJob]
@[simp] theorem endJob_pending (s : State) : (endJob s).pending = s.pending := by simp [endJob]

@[simp] theorem sequencerHold_port (s : State) : (sequencerHold s).port = s.port := by simp only [sequencerHold]; split <;> simp
@[simp] theorem sequencerHold_guidance (s : State) : (sequencerHold s).guidance = s.guidance := by simp only [sequencerHold]; split <;> simp
@[simp] theorem sequencerHold_darks (s : State) : (sequencerHold s).darks = s.darks := by simp only [sequencerHold]; split <;> simp
@[simp] theorem sequencerHold_tileMap (s : State) : (sequencerHold s).tileMap = s.tileMap := by simp only [sequencerHold]; split <;> simp
@[simp] theorem sequencerHold_results (s : State) : (sequencerHold s).results = s.results := by simp only [sequencerHold]; split <;> simp
@[simp] theorem sequencerHold_dram (s : State) : (sequencerHold s).dram = s.dram := by simp only [sequencerHold]; split <;> simp
@[simp] theorem sequencerHold_free (s : State) : (sequencerHold s).free = s.free := by simp only [sequencerHold]; split <;> simp
@[simp] theorem sequencerHold_pending (s : State) : (sequencerHold s).pending = s.pending := by simp only [sequencerHold]; split <;> simp

@[simp] theorem portHold_guidance (s : State) : (portHold s).guidance = s.guidance := by simp only [portHold]; split <;> simp
@[simp] theorem portHold_darks (s : State) : (portHold s).darks = s.darks := by simp only [portHold]; split <;> simp
@[simp] theorem portHold_tileMap (s : State) : (portHold s).tileMap = s.tileMap := by simp only [portHold]; split <;> simp
@[simp] theorem portHold_results (s : State) : (portHold s).results = s.results := by simp only [portHold]; split <;> simp
@[simp] theorem portHold_dram (s : State) : (portHold s).dram = s.dram := by simp only [portHold]; split <;> simp
@[simp] theorem portHold_free (s : State) : (portHold s).free = s.free := by simp only [portHold]; split <;> simp
@[simp] theorem portHold_pending (s : State) : (portHold s).pending = s.pending := by simp only [portHold]; split <;> simp

@[simp] theorem sessionHold_seq (s : State) : (sessionHold s).seq = s.seq := by simp only [sessionHold]; split <;> simp
@[simp] theorem sessionHold_port (s : State) : (sessionHold s).port = s.port := by simp only [sessionHold]; split <;> simp
@[simp] theorem sessionHold_ring (s : State) : (sessionHold s).ring = s.ring := by simp only [sessionHold]; split <;> simp
@[simp] theorem sessionHold_guidance (s : State) : (sessionHold s).guidance = s.guidance := by simp only [sessionHold]; split <;> simp
@[simp] theorem sessionHold_darks (s : State) : (sessionHold s).darks = s.darks := by simp only [sessionHold]; split <;> simp
@[simp] theorem sessionHold_tileMap (s : State) : (sessionHold s).tileMap = s.tileMap := by simp only [sessionHold]; split <;> simp
@[simp] theorem sessionHold_engine (s : State) : (sessionHold s).engine = s.engine := by simp only [sessionHold]; split <;> simp
@[simp] theorem sessionHold_results (s : State) : (sessionHold s).results = s.results := by simp only [sessionHold]; split <;> simp
@[simp] theorem sessionHold_power (s : State) : (sessionHold s).power = s.power := by simp only [sessionHold]; split <;> simp
@[simp] theorem sessionHold_lines (s : State) : (sessionHold s).lines = s.lines := by simp only [sessionHold]; split <;> simp
@[simp] theorem sessionHold_dram (s : State) : (sessionHold s).dram = s.dram := by simp only [sessionHold]; split <;> simp
@[simp] theorem sessionHold_free (s : State) : (sessionHold s).free = s.free := by simp only [sessionHold]; split <;> simp
@[simp] theorem sessionHold_pending (s : State) : (sessionHold s).pending = s.pending := by simp only [sessionHold]; split <;> simp

@[simp] theorem engineHold_port (s : State) : (engineHold s).port = s.port := by simp only [engineHold]; (repeat' split) <;> simp
@[simp] theorem engineHold_guidance (s : State) : (engineHold s).guidance = s.guidance := by simp only [engineHold]; (repeat' split) <;> simp
@[simp] theorem engineHold_tileMap (s : State) : (engineHold s).tileMap = s.tileMap := by simp only [engineHold]; (repeat' split) <;> simp
@[simp] theorem engineHold_dram (s : State) : (engineHold s).dram = s.dram := by simp only [engineHold]; (repeat' split) <;> simp
@[simp] theorem engineHold_free (s : State) : (engineHold s).free = s.free := by simp only [engineHold]; (repeat' split) <;> simp
@[simp] theorem engineHold_pending (s : State) : (engineHold s).pending = s.pending := by simp only [engineHold]; (repeat' split) <;> simp

@[simp] theorem enterHold_guidance (s : State) : (enterHold s).guidance = s.guidance := by simp only [enterHold]; split <;> simp
@[simp] theorem enterHold_tileMap (s : State) : (enterHold s).tileMap = s.tileMap := by simp only [enterHold]; split <;> simp
@[simp] theorem enterHold_dram (s : State) : (enterHold s).dram = s.dram := by simp only [enterHold]; split <;> simp
@[simp] theorem enterHold_free (s : State) : (enterHold s).free = s.free := by simp only [enterHold]; split <;> simp
@[simp] theorem enterHold_pending (s : State) : (enterHold s).pending = s.pending := by simp only [enterHold]; split <;> simp

@[simp] theorem restartDebounce_session (s : State) : (restartDebounce s).session = s.session := by simp [restartDebounce]
@[simp] theorem restartDebounce_port (s : State) : (restartDebounce s).port = s.port := by simp [restartDebounce]
@[simp] theorem restartDebounce_ring (s : State) : (restartDebounce s).ring = s.ring := by simp [restartDebounce]
@[simp] theorem restartDebounce_guidance (s : State) : (restartDebounce s).guidance = s.guidance := by simp [restartDebounce]
@[simp] theorem restartDebounce_darks (s : State) : (restartDebounce s).darks = s.darks := by simp [restartDebounce]
@[simp] theorem restartDebounce_tileMap (s : State) : (restartDebounce s).tileMap = s.tileMap := by simp [restartDebounce]
@[simp] theorem restartDebounce_engine (s : State) : (restartDebounce s).engine = s.engine := by simp [restartDebounce]
@[simp] theorem restartDebounce_results (s : State) : (restartDebounce s).results = s.results := by simp [restartDebounce]
@[simp] theorem restartDebounce_power (s : State) : (restartDebounce s).power = s.power := by simp [restartDebounce]
@[simp] theorem restartDebounce_pLink (s : State) : (restartDebounce s).pLink = s.pLink := by simp [restartDebounce]
@[simp] theorem restartDebounce_sLink (s : State) : (restartDebounce s).sLink = s.sLink := by simp [restartDebounce]
@[simp] theorem restartDebounce_lines (s : State) : (restartDebounce s).lines = s.lines := by simp [restartDebounce]
@[simp] theorem restartDebounce_dram (s : State) : (restartDebounce s).dram = s.dram := by simp [restartDebounce]
@[simp] theorem restartDebounce_free (s : State) : (restartDebounce s).free = s.free := by simp [restartDebounce]
@[simp] theorem restartDebounce_pending (s : State) : (restartDebounce s).pending = s.pending := by simp [restartDebounce]

@[simp] theorem emptyMarkers_session (s : State) : (emptyMarkers s).session = s.session := by simp [emptyMarkers]
@[simp] theorem emptyMarkers_seq (s : State) : (emptyMarkers s).seq = s.seq := by simp [emptyMarkers]
@[simp] theorem emptyMarkers_port (s : State) : (emptyMarkers s).port = s.port := by simp [emptyMarkers]
@[simp] theorem emptyMarkers_ring (s : State) : (emptyMarkers s).ring = s.ring := by simp [emptyMarkers]
@[simp] theorem emptyMarkers_guidance (s : State) : (emptyMarkers s).guidance = s.guidance := by simp [emptyMarkers]
@[simp] theorem emptyMarkers_darks (s : State) : (emptyMarkers s).darks = s.darks := by simp [emptyMarkers]
@[simp] theorem emptyMarkers_tileMap (s : State) : (emptyMarkers s).tileMap = s.tileMap := by simp [emptyMarkers]
@[simp] theorem emptyMarkers_engine (s : State) : (emptyMarkers s).engine = s.engine := by simp [emptyMarkers]
@[simp] theorem emptyMarkers_power (s : State) : (emptyMarkers s).power = s.power := by simp [emptyMarkers]
@[simp] theorem emptyMarkers_pLink (s : State) : (emptyMarkers s).pLink = s.pLink := by simp [emptyMarkers]
@[simp] theorem emptyMarkers_sLink (s : State) : (emptyMarkers s).sLink = s.sLink := by simp [emptyMarkers]
@[simp] theorem emptyMarkers_lines (s : State) : (emptyMarkers s).lines = s.lines := by simp [emptyMarkers]
@[simp] theorem emptyMarkers_dram (s : State) : (emptyMarkers s).dram = s.dram := by simp [emptyMarkers]
@[simp] theorem emptyMarkers_free (s : State) : (emptyMarkers s).free = s.free := by simp [emptyMarkers]
@[simp] theorem emptyMarkers_pending (s : State) : (emptyMarkers s).pending = s.pending := by simp [emptyMarkers]

@[simp] theorem enterStandby_session (s : State) : (enterStandby s).session = s.session := by simp [enterStandby]
@[simp] theorem enterStandby_seq (s : State) : (enterStandby s).seq = s.seq := by simp [enterStandby]
@[simp] theorem enterStandby_port (s : State) : (enterStandby s).port = s.port := by simp [enterStandby]
@[simp] theorem enterStandby_ring (s : State) : (enterStandby s).ring = s.ring := by simp [enterStandby]
@[simp] theorem enterStandby_guidance (s : State) : (enterStandby s).guidance = s.guidance := by simp [enterStandby]
@[simp] theorem enterStandby_tileMap (s : State) : (enterStandby s).tileMap = s.tileMap := by simp [enterStandby]
@[simp] theorem enterStandby_engine (s : State) : (enterStandby s).engine = s.engine := by simp [enterStandby]
@[simp] theorem enterStandby_pLink (s : State) : (enterStandby s).pLink = s.pLink := by simp [enterStandby]
@[simp] theorem enterStandby_sLink (s : State) : (enterStandby s).sLink = s.sLink := by simp [enterStandby]
@[simp] theorem enterStandby_lines (s : State) : (enterStandby s).lines = s.lines := by simp [enterStandby]
@[simp] theorem enterStandby_dram (s : State) : (enterStandby s).dram = s.dram := by simp [enterStandby]
@[simp] theorem enterStandby_free (s : State) : (enterStandby s).free = s.free := by simp [enterStandby]
@[simp] theorem enterStandby_pending (s : State) : (enterStandby s).pending = s.pending := by simp [enterStandby]

@[simp] theorem judgeTable_session (s : State) (n : Nat) (b : Bool) : (judgeTable n b s).session = s.session := by simp only [judgeTable]; split <;> simp
@[simp] theorem judgeTable_seq (s : State) (n : Nat) (b : Bool) : (judgeTable n b s).seq = s.seq := by simp only [judgeTable]; split <;> simp
@[simp] theorem judgeTable_port (s : State) (n : Nat) (b : Bool) : (judgeTable n b s).port = s.port := by simp only [judgeTable]; split <;> simp
@[simp] theorem judgeTable_ring (s : State) (n : Nat) (b : Bool) : (judgeTable n b s).ring = s.ring := by simp only [judgeTable]; split <;> simp
@[simp] theorem judgeTable_darks (s : State) (n : Nat) (b : Bool) : (judgeTable n b s).darks = s.darks := by simp only [judgeTable]; split <;> simp
@[simp] theorem judgeTable_tileMap (s : State) (n : Nat) (b : Bool) : (judgeTable n b s).tileMap = s.tileMap := by simp only [judgeTable]; split <;> simp
@[simp] theorem judgeTable_engine (s : State) (n : Nat) (b : Bool) : (judgeTable n b s).engine = s.engine := by simp only [judgeTable]; split <;> simp
@[simp] theorem judgeTable_results (s : State) (n : Nat) (b : Bool) : (judgeTable n b s).results = s.results := by simp only [judgeTable]; split <;> simp
@[simp] theorem judgeTable_power (s : State) (n : Nat) (b : Bool) : (judgeTable n b s).power = s.power := by simp only [judgeTable]; split <;> simp
@[simp] theorem judgeTable_lines (s : State) (n : Nat) (b : Bool) : (judgeTable n b s).lines = s.lines := by simp only [judgeTable]; split <;> simp
@[simp] theorem judgeTable_dram (s : State) (n : Nat) (b : Bool) : (judgeTable n b s).dram = s.dram := by simp only [judgeTable]; split <;> simp
@[simp] theorem judgeTable_free (s : State) (n : Nat) (b : Bool) : (judgeTable n b s).free = s.free := by simp only [judgeTable]; split <;> simp
@[simp] theorem judgeTable_pending (s : State) (n : Nat) (b : Bool) : (judgeTable n b s).pending = s.pending := by simp only [judgeTable]; split <;> simp

end Sys2Proof.Machine
end

