-- ==== Sys2Proof/Laws/Memory.lean ====
section
/-! SUPPORT. The laws of the regions: every memory operation keeps the canonical form, and what a read gives after a
write. -/

namespace Sys2Proof.Machine

variable {α : Type}

/-- A region with nothing listed reads as the cleared value everywhere. -/
@[simp] theorem regionRead_nil (d : α) (k : Nat) : regionRead d [] k = d := rfl

/-- A read gives the cleared value or a listed one. -/
theorem regionRead_mem (d : α) (m : Region α) (k : Nat) : regionRead d m k = d ∨ (k, regionRead d m k) ∈ m := by
  induction m with
  | nil => exact .inl rfl
  | cons e rest ih =>
    obtain ⟨a, v⟩ := e
    by_cases h : a = k
    · subst h
      simp [regionRead]
    · rcases ih with ih | ih <;> simp [regionRead, h, ih]

variable [DecidableEq α]

/-- A bound from below that a region's indexes pass may be lowered. -/
theorem regionWfAbove_none {d : α} {b : Nat} {m : Region α} (h : regionWfAbove d (some b) m = true) :
    regionWfAbove d none m = true := by
  cases m with
  | nil => rfl
  | cons e rest => simp_all [regionWfAbove]

/-- The tail of a region in canonical form stands above the head's index. -/
theorem regionWfAbove_tail {d : α} {lo : Option Nat} {a : Nat} {v : α} {rest : Region α}
    (h : regionWfAbove d lo ((a, v) :: rest) = true) : regionWfAbove d (some a) rest = true := by
  simp [regionWfAbove] at h
  exact h.2

/-- A bound may be lowered. -/
theorem regionWfAbove_mono {d : α} {b c : Nat} (hbc : b ≤ c) {m : Region α} (h : regionWfAbove d (some c) m = true) :
    regionWfAbove d (some b) m = true := by
  cases m with
  | nil => rfl
  | cons e rest => simp_all [regionWfAbove]; omega

/-- An index at or below the bound reads as the cleared value. -/
theorem regionRead_below {d : α} {b k : Nat} (hk : k ≤ b) {m : Region α} (h : regionWfAbove d (some b) m = true) :
    regionRead d m k = d := by
  induction m generalizing b with
  | nil => rfl
  | cons e rest ih =>
    obtain ⟨a, v⟩ := e
    have ht := regionWfAbove_tail h
    simp [regionWfAbove] at h
    have : ¬a = k := by omega
    simp only [regionRead, this, if_false]
    exact ih (by omega) ht

/-- A write above the bound keeps the canonical form above it. -/
theorem regionWrite_wfAbove {d : α} {b k : Nat} (hk : b < k) (v : α) {m : Region α}
    (h : regionWfAbove d (some b) m = true) : regionWfAbove d (some b) (regionWrite d m k v) = true := by
  induction m generalizing b with
  | nil => by_cases hv : v = d <;> simp [regionWrite, hv, regionWfAbove, hk]
  | cons e rest ih =>
    obtain ⟨a, w⟩ := e
    have ht := regionWfAbove_tail h
    simp [regionWfAbove] at h
    rcases Nat.lt_trichotomy k a with hlt | heq | hgt
    · by_cases hv : v = d <;> simp_all [regionWrite, regionWfAbove]
    · subst heq
      by_cases hv : v = d
      · simpa [regionWrite, hv] using regionWfAbove_mono (Nat.le_of_lt hk) ht
      · simp_all [regionWrite, regionWfAbove]
    · have h1 : ¬k < a := by omega
      have h2 : ¬k = a := by omega
      simp [regionWrite, h1, h2, regionWfAbove, h, ih hgt ht]

/-- A write keeps the canonical form. -/
theorem regionWrite_wf {d : α} (k : Nat) (v : α) {m : Region α} (h : regionWf d m = true) :
    regionWf d (regionWrite d m k v) = true := by
  unfold regionWf at *
  cases m with
  | nil => by_cases hv : v = d <;> simp [regionWrite, hv, regionWfAbove]
  | cons e rest =>
    obtain ⟨a, w⟩ := e
    have ht := regionWfAbove_tail h
    simp [regionWfAbove] at h
    rcases Nat.lt_trichotomy k a with hlt | heq | hgt
    · by_cases hv : v = d <;> simp_all [regionWrite, regionWfAbove]
    · subst heq
      by_cases hv : v = d
      · simpa [regionWrite, hv] using regionWfAbove_none ht
      · simp_all [regionWrite, regionWfAbove]
    · have h1 : ¬k < a := by omega
      have h2 : ¬k = a := by omega
      simp [regionWrite, h1, h2, regionWfAbove, h, regionWrite_wfAbove hgt v ht]

/-- A run of writes keeps the canonical form. -/
theorem regionWriteRun_wf {d : α} (k : Nat) (vs : List α) {m : Region α} (h : regionWf d m = true) :
    regionWf d (regionWriteRun d m k vs) = true := by
  induction vs generalizing m k with
  | nil => exact h
  | cons v vs ih => exact ih (k + 1) (regionWrite_wf k v h)

/-- A region with nothing listed stands in its canonical form. -/
@[simp] theorem regionWf_nil (d : α) : regionWf d [] = true := rfl

/-- A read at another index gives what it gave before the write. -/
theorem regionRead_regionWrite_ne (d : α) (m : Region α) {k j : Nat} (v : α) (h : j ≠ k) :
    regionRead d (regionWrite d m k v) j = regionRead d m j := by
  induction m with
  | nil => by_cases hv : v = d <;> simp [regionWrite, hv, regionRead, h.symm]
  | cons e rest ih =>
    obtain ⟨a, w⟩ := e
    rcases Nat.lt_trichotomy k a with hlt | heq | hgt
    · by_cases hv : v = d <;> simp [regionWrite, hv, hlt, regionRead, h.symm]
    · subst heq
      by_cases hv : v = d <;> simp [regionWrite, hv, regionRead, h.symm]
    · have h1 : ¬k < a := by omega
      have h2 : ¬k = a := by omega
      simp [regionWrite, h1, h2, regionRead, ih]

/-- A read at the written index gives the written value, in a region in canonical form. -/
theorem regionRead_regionWrite_self {d : α} {lo : Option Nat} {m : Region α} (k : Nat) (v : α)
    (h : regionWfAbove d lo m = true) : regionRead d (regionWrite d m k v) k = v := by
  induction m generalizing lo with
  | nil => by_cases hv : v = d <;> simp [regionWrite, hv, regionRead]
  | cons e rest ih =>
    obtain ⟨a, w⟩ := e
    have ht := regionWfAbove_tail h
    rcases Nat.lt_trichotomy k a with hlt | heq | hgt
    · have hak : ¬a = k := by omega
      by_cases hv : v = d
      · simp [regionWrite, hv, hlt, regionRead, hak, regionRead_below (Nat.le_of_lt hlt) ht]
      · simp [regionWrite, hv, hlt, regionRead]
    · subst heq
      by_cases hv : v = d
      · simp [regionWrite, hv, regionRead_below (Nat.le_refl k) ht]
      · simp [regionWrite, hv, regionRead]
    · have h1 : ¬k < a := by omega
      have h2 : ¬k = a := by omega
      have h3 : ¬a = k := by omega
      simp [regionWrite, h1, h2, h3, regionRead, ih ht]

/-- A read after a write, in a region in canonical form. -/
theorem regionRead_regionWrite {d : α} {m : Region α} (k j : Nat) (v : α) (h : regionWf d m = true) :
    regionRead d (regionWrite d m k v) j = if j = k then v else regionRead d m j := by
  by_cases hj : j = k
  · subst hj
    simpa using regionRead_regionWrite_self j v h
  · simpa [hj] using regionRead_regionWrite_ne d m v hj

/-- A read after a run of writes: the value the run carries there, or what stood there before. -/
theorem regionRead_regionWriteRun {d : α} (vs : List α) (k j : Nat) {m : Region α} (h : regionWf d m = true) :
    regionRead d (regionWriteRun d m k vs) j =
      if k ≤ j then (vs[j - k]?).getD (regionRead d m j) else regionRead d m j := by
  induction vs generalizing m k with
  | nil => simp [regionWriteRun]
  | cons v vs ih =>
    rw [regionWriteRun, ih (k + 1) (regionWrite_wf k v h), regionRead_regionWrite k j v h]
    rcases Nat.lt_trichotomy j k with hlt | heq | hgt
    · have h1 : ¬k ≤ j := by omega
      have h2 : ¬k + 1 ≤ j := by omega
      have h3 : ¬j = k := by omega
      simp [h1, h2, h3]
    · subst heq
      simp
    · have h1 : k ≤ j := by omega
      have h2 : k + 1 ≤ j := by omega
      have h3 : ¬j = k := by omega
      have h4 : j - k = (j - (k + 1)) + 1 := by omega
      simp [h1, h2, h3, h4]

/-- An entry listed after a write was listed before it or is the one written. -/
theorem mem_regionWrite {d : α} {m : Region α} {k : Nat} {v : α} {e : Nat × α} (h : e ∈ regionWrite d m k v) :
    e ∈ m ∨ e = (k, v) := by
  induction m with
  | nil => by_cases hv : v = d <;> simp_all [regionWrite]
  | cons x rest ih =>
    obtain ⟨a, w⟩ := x
    simp only [regionWrite] at h
    split_ifs at h <;> simp_all <;> tauto

/-- The memory with nothing listed stands in its canonical form. -/
theorem Dram.cleared_wf : Dram.cleared.wf = true := by decide

end Sys2Proof.Machine
end

