-- ==== Sys2Proof/Laws/Image.lean ====
section
/-! SUPPORT. The tile operations keep the canonical form of the regions they write. -/

namespace Sys2Proof.Machine

/-- A fold of steps that each keep a property keeps it. -/
theorem foldl_keeps {β γ : Type} (P : β → Prop) (f : β → γ → β) (hf : ∀ b c, P b → P (f b c)) (l : List γ) (b : β)
    (h : P b) : P (l.foldl f b) := by
  induction l generalizing b with
  | nil => exact h
  | cons c l ih => exact ih _ (hf b c h)

/-- A cleared tile keeps the plane's canonical form (R113). -/
theorem clearTile_wf (w t : Nat) {m : Region CellRecord} (h : regionWf CellRecord.zero m = true) :
    regionWf CellRecord.zero (clearTile w t m) = true :=
  foldl_keeps (fun m => regionWf CellRecord.zero m = true) _ (fun _ _ hm => regionWrite_wf _ _ hm) _ _ h

/-- A merged tile of a dark keeps its sums' canonical form (R95). -/
theorem darkMergeTile_wf (w : Nat) (b : Bayer) (raw : Region Nat) (fresh : Bool) (t : Nat) {m : Region Quad}
    (h : regionWf Quad.zero m = true) : regionWf Quad.zero (darkMergeTile w b raw fresh t m) = true :=
  foldl_keeps (fun m => regionWf Quad.zero m = true) _ (fun _ _ hm => regionWrite_wf _ _ hm) _ _ h

/-- A finished tile keeps the output plane's canonical form (R128). -/
theorem finishTile_wf (p : Planes) (pedestal t : Nat) {m : Region Nat} (h : regionWf 0 m = true) :
    regionWf 0 (p.finishTile pedestal t m) = true :=
  foldl_keeps (fun m => regionWf 0 m = true) _
    (fun _ _ hm => regionWrite_wf _ _ (regionWrite_wf _ _ (regionWrite_wf _ _ (regionWrite_wf _ _ hm)))) _ _ h

/-- A tile of a preview keeps the preview buffer's canonical form (R134). -/
theorem previewTile_wf (p : Planes) (pedestal t : Nat) {m : Region Nat} (h : regionWf 0 m = true) :
    regionWf 0 (p.previewTile pedestal t m) = true :=
  foldl_keeps (fun m => regionWf 0 m = true) _ (fun _ _ hm => regionWrite_wf _ _ hm) _ _ h

/-- A line written keeps the staging buffer's canonical form (R55). -/
theorem writeLine_wf (p : SensorPort) (pixels : List Pixel) {m : Region Nat} (h : regionWf 0 m = true) :
    regionWf 0 (writeLine p pixels m) = true := by
  unfold writeLine
  split
  · exact regionWriteRun_wf _ _ h
  · exact h

/-- A contribution judged for the ground plane is rejected, or accepted into its record (R118, R119). -/
theorem MergeAcc.addGround_cases (plan : Plan) (index : Nat) (x : Quad) (acc : MergeAcc) :
    acc.addGround plan index x = { acc with rejected := acc.rejected + 1 } ∨
      acc.addGround plan index x = { acc with
        ground := regionWrite CellRecord.zero acc.ground index
          ((regionRead CellRecord.zero acc.ground index).accept x)
        mergedGround := acc.mergedGround + 1 } := by
  cases h : rejects plan (regionRead CellRecord.zero acc.ground index) x <;> simp [MergeAcc.addGround, h]

/-- A contribution judged for the sky plane is rejected, or accepted into its record (R118, R119). -/
theorem MergeAcc.addSky_cases (plan : Plan) (index : Nat) (x : Quad) (acc : MergeAcc) :
    acc.addSky plan index x = { acc with rejected := acc.rejected + 1 } ∨
      acc.addSky plan index x = { acc with
        sky := regionWrite CellRecord.zero acc.sky index ((regionRead CellRecord.zero acc.sky index).accept x)
        mergedSky := acc.mergedSky + 1 } := by
  cases h : rejects plan (regionRead CellRecord.zero acc.sky index) x <;> simp [MergeAcc.addSky, h]

/-- Both planes stand in their canonical form. -/
def MergeAcc.Wf (acc : MergeAcc) : Prop :=
  regionWf CellRecord.zero acc.sky = true ∧ regionWf CellRecord.zero acc.ground = true

/-- One cell of a merge keeps the planes' canonical form (R114). -/
theorem mergeCell_wf (l : Light) (plan : Plan) (sky : Option Transform) (acc : MergeAcc) (c : Nat × Nat)
    (h : acc.Wf) : (l.mergeCell plan sky acc c).Wf := by
  have ground : ∀ (acc : MergeAcc) (k : Nat) (x : Quad), acc.Wf → (acc.addGround plan k x).Wf := by
    intro acc k x h
    rcases MergeAcc.addGround_cases plan k x acc with e | e <;> rw [e]
    · exact h
    · exact ⟨h.1, regionWrite_wf _ _ h.2⟩
  have fromSky : ∀ (acc : MergeAcc) (k : Nat) (x : Quad), acc.Wf → (acc.addSky plan k x).Wf := by
    intro acc k x h
    rcases MergeAcc.addSky_cases plan k x acc with e | e <;> rw [e]
    · exact h
    · exact ⟨regionWrite_wf _ _ h.1, h.2⟩
  cases hg : l.groundContribution c.1 c.2 <;> cases hs : sky.bind fun t => l.skyContribution t c.1 c.2 <;>
    simp only [Light.mergeCell, hg, hs]
  · exact h
  · exact fromSky _ _ _ h
  · exact ground _ _ _ h
  · exact fromSky _ _ _ (ground _ _ _ h)

/-- A merged tile of a light keeps the planes' canonical form (R114). -/
theorem mergeTile_wf (l : Light) (plan : Plan) (sky : Option Transform) (t : Nat) (acc : MergeAcc) (h : acc.Wf) :
    (l.mergeTile plan sky t acc).Wf :=
  foldl_keeps MergeAcc.Wf _ (fun acc c ha => mergeCell_wf l plan sky acc c ha) _ _ h

/-- A calibrated value has 14 bits (R101). -/
theorem calibrated_le (raw dark : Nat) : calibrated raw dark ≤ 16383 := by
  unfold calibrated clampInt
  split_ifs <;> omega

/-- An output value has 16 bits (R127). -/
theorem outputValue_le (pedestal comp : Nat) : outputValue pedestal comp ≤ 65535 := by
  unfold outputValue clampInt
  split_ifs <;> omega

end Sys2Proof.Machine
end

