-- ==== Sys2Proof/Laws/Ops.lean ====
section
/-! SUPPORT. What each shared operation can do, said once: the later proofs cite these and never unfold the operation. -/

namespace Sys2Proof.Machine

/-! ## Events -/

/-- A raised event changes the two links alone. -/
theorem raise_eq (e : Event) (s : State) :
    raise e s = { s with pLink := s.pLink.raised e, sLink := s.sLink.raised e } := rfl

/-- A raised event is pending on the P-link. -/
theorem raise_pending_pLink (e : Event) (s : State) :
    (raise e s).pLink.pendingSet = s.pLink.pendingSet ||| eventBit e := rfl

/-- A raised event is pending on the S-link. -/
theorem raise_pending_sLink (e : Event) (s : State) :
    (raise e s).sLink.pendingSet = s.sLink.pendingSet ||| eventBit e := rfl

/-- An event's bit stands at its number. -/
theorem eventBit_self (e : Event) : (eventBit e).getLsbD (eventNumber e) = true := by cases e <;> rfl

/-- No event has bit 15 (R179). -/
theorem eventBit_fifteen (e : Event) : (eventBit e).getLsbD 15 = false := by cases e <;> rfl

/-- An event set carried by a request has no bit 15 (R179). -/
theorem fieldEvents_fifteen (p : SelectPeriod) (offset : Nat) : (fieldEvents p offset).getLsbD 15 = false := by
  simp [fieldEvents]

/-- A raised event stands in the pending set. -/
@[simp] theorem LinkState.raised_pending (e : Event) (l : LinkState) :
    (l.raised e).pendingSet.getLsbD (eventNumber e) = true := by
  simp [LinkState.raised, LinkState.judged, eventBit_self]

/-- The raising of an event removes none. -/
theorem LinkState.raised_keeps (e : Event) (l : LinkState) {n : Nat} (h : l.pendingSet.getLsbD n = true) :
    (l.raised e).pendingSet.getLsbD n = true := by
  simp [LinkState.raised, LinkState.judged, h]

/-- A judged link's attention line has its level (R160). -/
@[simp] theorem LinkState.judged_attention (l : LinkState) : l.judged.attention = l.judged.attentionLevel := rfl

@[simp] theorem LinkState.raised_enableSet (e : Event) (l : LinkState) : (l.raised e).enableSet = l.enableSet := rfl
@[simp] theorem LinkState.raised_order (e : Event) (l : LinkState) : (l.raised e).order = l.order := rfl
@[simp] theorem LinkState.raised_response (e : Event) (l : LinkState) : (l.raised e).response = l.response := rfl
@[simp] theorem LinkState.raised_sent (e : Event) (l : LinkState) : (l.raised e).sent = l.sent := rfl

/-! ## Power -/

/-- A wake begins the move to ACTIVE in a settled DOZE, is kept through an entry to DOZE, and does nothing elsewhere
(R141). -/
theorem wake_cases (c : WakeCause) (s : State) :
    (s.power.state = .doze ∧ s.power.changing = true ∧
      (wake c s).power = { s.power with wakePending := true, lastWake := some c }) ∨
    (s.power.state = .doze ∧ s.power.changing = false ∧
      (wake c s).power = { s.power with state := .active, changing := true, lastWake := some c }) ∨
    (s.power.state ≠ .doze ∧ wake c s = s) := by
  by_cases h : s.power.state = .doze <;> by_cases g : s.power.changing = true <;> simp [wake, h, g]

/-- A wake outside DOZE does nothing. -/
theorem wake_of_not_doze {s : State} (c : WakeCause) (h : s.power.state ≠ .doze) : wake c s = s := by simp [wake, h]

/-- A wake in STANDBY begins the move to ACTIVE; elsewhere it does nothing (R146). -/
theorem standbyWake_cases (c : WakeCause) (s : State) :
    (s.power.state = .standby ∧
      (standbyWake c s).power = { s.power with state := .active, changing := true, lastWake := some c }) ∨
    (s.power.state ≠ .standby ∧ standbyWake c s = s) := by
  by_cases h : s.power.state = .standby <;> by_cases g : s.power.changing = true <;>
    simp [standbyWake, h, g, State.loseMemory]

/-- A transition in progress is ready to complete where the engine owes it nothing more: on the return from HOLD its stop,
on the way to HOLD or STANDBY its job (R139, R145, R150). -/
theorem State.transitionReady_iff (s : State) : s.transitionReady = true ↔ s.power.changing = true ∧
    (s.power.state = .active → s.power.lastWake = some .supplyReturn → s.engine.stop = .none) ∧
    (s.power.state ∈ [.hold, .standby] → s.engine.job = .none) := by
  cases h : s.power.state <;> by_cases g : s.power.lastWake = some .supplyReturn <;>
    simp [State.transitionReady, Power.fromHold, h, g]

/-- A move to ACTIVE begun by a wake comes from HOLD only where the cause is SUPPLY_RETURN (R141). -/
theorem wake_fromHold {c : WakeCause} {s : State} (h : s.power.state = .doze) :
    (wake c s).power.fromHold = (c == .supplyReturn) := by
  by_cases g : s.power.changing = true <;> simp [wake, h, g, Power.fromHold]

/-- The same of a wake in STANDBY, also of one that turns an entry round (R145, R146). -/
theorem standbyWake_fromHold {c : WakeCause} {s : State} (h : s.power.state = .standby) :
    (standbyWake c s).power.fromHold = (c == .supplyReturn) := by
  by_cases g : s.power.changing = true <;> simp [standbyWake, h, g, Power.fromHold]

/-- A waiting request is given up with its cause; with none waiting nothing happens (R144). -/
theorem giveUpWaiting_cases (c : RefusalCause) (s : State) :
    (s.power.waiting = true ∧ giveUpWaiting c s =
      raise .powerRefused { s with power := { s.power with waiting := false, lastRefusal := some c } }) ∨
    (s.power.waiting = false ∧ giveUpWaiting c s = s) := by
  cases h : s.power.waiting <;> simp [giveUpWaiting, h]
  rfl

/-- The entry to STANDBY empties the library and the markers (R145). -/
theorem enterStandby_eq (s : State) : enterStandby s =
    { s with
      power := { s.power with state := .standby, changing := true, waiting := false }
      darks := DarkLibrary.emptied
      results := { s.results with output := .empty, preview := .empty } } := rfl

/-! ## The arbiter -/

/-- With the memory not ACTIVE nobody is granted (R108). -/
theorem arbiterGrant_asleep (sensorPort engine link : Bool) (last : Requester) :
    arbiterGrant false sensorPort engine link last = none := rfl

/-- Who waits alone or first is granted, or the other of the two that alternate (R108). -/
theorem arbiterGrant_awake (sensorPort engine link : Bool) (last : Requester) :
    (sensorPort = true ∧ arbiterGrant true sensorPort engine link last = some .sensorPort) ∨
    (sensorPort = false ∧ engine = true ∧ (link = true → last = .link) ∧
      arbiterGrant true sensorPort engine link last = some .engine) ∨
    (sensorPort = false ∧ link = true ∧ (engine = true → last = .engine) ∧
      arbiterGrant true sensorPort engine link last = some .link) ∨
    (sensorPort = false ∧ engine = false ∧ link = false ∧
      arbiterGrant true sensorPort engine link last = none) := by
  cases sensorPort <;> cases engine <;> cases link <;> cases last <;> simp [arbiterGrant]

/-- The three that may wait are three. -/
theorem MemoryUser.apart : (MemoryUser.engine == .sensorPort) = false ∧ (MemoryUser.engine == .link) = false ∧
    (MemoryUser.link == .sensorPort) = false ∧ (MemoryUser.link == .engine) = false := by
  decide

/-- With the memory not ACTIVE no use of it is made (R108). -/
theorem whenServed_asleep {s : State} (who : MemoryUser) (use : State → State) (h : s.memoryAwake = false) :
    whenServed who use s = s := by
  simp [whenServed, grantsUntil, State.nextGrant, h, arbiterGrant_asleep]

/-- With the memory ACTIVE the Sensor Port is granted at once, and leaves the record as it is (R108). -/
theorem whenServed_sensorPort {s : State} (use : State → State) (h : s.memoryAwake = true) :
    whenServed .sensorPort use s = use s := by
  simp [whenServed, grantsUntil, State.nextGrant, h, arbiterGrant, recordGrant]

/-- A change of the engine's items leaves the memory's state as it is. -/
@[simp] theorem State.onEngine_memoryAwake (s : State) (f : Engine → Engine) :
    (s.onEngine f).memoryAwake = s.memoryAwake := rfl

/-- A change of the engine's items leaves the part powered or not. -/
@[simp] theorem State.onEngine_powered (s : State) (f : Engine → Engine) : (s.onEngine f).powered = s.powered := rfl

/-- A recorded grant leaves the engine on its tile. -/
@[simp] theorem State.granted_onTile (s : State) (r : Requester) :
    (s.onEngine fun e => { e with lastGranted := r }).onTile = s.onTile := rfl

/-- With the memory ACTIVE the engine is granted its access, after at most one of a bulk read (R108). -/
theorem whenServed_engine {s : State} (use : State → State) (h : s.memoryAwake = true) :
    whenServed .engine use s = use (s.onEngine fun e => { e with lastGranted := .engine }) := by
  cases g : (s.powered && s.pLink.bulkRead.isSome) <;> cases l : s.engine.lastGranted
  all_goals
    simp [whenServed, grantsUntil, State.nextGrant, h, g, l, MemoryUser.apart, arbiterGrant, recordGrant]
    try rfl

/-- With the memory ACTIVE a bulk read is granted its access, after at most one of the engine (R108). -/
theorem whenServed_link {s : State} (use : State → State) (h : s.memoryAwake = true) :
    whenServed .link use s = use (s.onEngine fun e => { e with lastGranted := .link }) := by
  cases g : s.onTile <;> cases l : s.engine.lastGranted
  all_goals
    simp [whenServed, grantsUntil, State.nextGrant, h, g, l, MemoryUser.apart, arbiterGrant, recordGrant]
    try rfl

/-! ## The session's state -/

/-- The entry of the session to a state other than PAUSED (R1, R2). -/
theorem enterSession_eq (st : SessionState) (s : State) : enterSession st s =
    raise .sessionState { s with session := { s.session with state := st, pauseCause := none } } := rfl

/-- The entry of the session to PAUSED (R1, R2). -/
theorem enterPaused_eq (c : PauseCause) (s : State) : enterPaused c s =
    raise .sessionState { s with session := { s.session with state := .paused, pauseCause := some c } } := rfl

/-- The drain check posts a finish when it finds the drain complete in DRAINING, and does nothing else (R13). -/
theorem drainCheck_cases (c : WakeCause) (s : State) :
    (s.session.state = .draining ∧ s.ring.drained = true ∧ drainCheck c s =
      wake c ((enterSession .finishing s).onEngine fun e => { e with finishPending := true })) ∨
    ((s.session.state ≠ .draining ∨ s.ring.drained = false) ∧ drainCheck c s = s) := by
  by_cases h : s.session.state = .draining <;> cases g : s.ring.drained <;> simp [drainCheck, h, g]

/-- Outside DRAINING the drain check does nothing. -/
theorem drainCheck_of_not_draining {s : State} (c : WakeCause) (h : s.session.state ≠ .draining) :
    drainCheck c s = s := by
  simp [drainCheck, h]

/-- A pending plan becomes active; with none pending nothing happens (R23). -/
theorem applyPending_cases (s : State) :
    (∃ i, s.session.pendingPlan = some i ∧ applyPending s =
      raise .planSwitched { s with session := { s.session with activePlan := i, pendingPlan := none } }) ∨
    (s.session.pendingPlan = none ∧ applyPending s = s) := by
  cases h : s.session.pendingPlan <;> simp [applyPending, h]
  rfl

/-- The limits drain a running session with auto finish set that has met one, and do nothing else (R15, R16). -/
theorem checkLimits_cases (s : State) :
    (s.running = true ∧ s.plan.autoFinish = true ∧ (s.subLimitMet = true ∨ s.durationMet = true) ∧
      checkLimits s = enterDraining .alarm s) ∨ checkLimits s = s := by
  by_cases h : (s.running && s.plan.autoFinish && (s.subLimitMet || s.durationMet)) = true
  · left
    simp only [checkLimits, h, if_true]
    simpa [and_assoc] using h
  · right
    simp only [checkLimits, h]
    rfl

/-- The sub limit drains a running session with auto finish set that has met it, and does nothing else (R16). -/
theorem checkSubLimit_cases (s : State) :
    (s.running = true ∧ s.plan.autoFinish = true ∧ s.subLimitMet = true ∧
      checkSubLimit s = enterDraining .alarm s) ∨ checkSubLimit s = s := by
  by_cases h : (s.running && s.plan.autoFinish && s.subLimitMet) = true
  · left
    simp only [checkSubLimit, h, if_true]
    simpa [and_assoc] using h
  · right
    simp only [checkSubLimit, h]
    rfl

/-! ## The sequencer -/

/-- The wait for the cover's opening begins, or ends at once with the cover open (R41). -/
theorem enterWaitOpen_cases (s : State) :
    (s.lines.shutterClosed = true ∧ enterWaitOpen s =
      { s with seq := { s.seq with phase := .waitOpen, shutterTimer := some (later s.seq.clock 500) } }) ∨
    (s.lines.shutterClosed = false ∧ enterWaitOpen s = coverOpen s) := by
  cases h : s.lines.shutterClosed <;> simp [enterWaitOpen, h]
  rfl

/-- An open cover lets a running session wait for its next start (R41). -/
theorem coverOpen_cases (s : State) :
    (s.running = true ∧ coverOpen s = { s with seq := { s.seq with shutterTimer := none, phase := .waitStart } }) ∨
    (s.running = false ∧ coverOpen s = { s with seq := { s.seq with
      shutterTimer := none, phase := .idle, cadenceTimer := none, keptExpiry := false, wakeAlarm := none } }) := by
  have h : (s.onSeq fun q => { q with shutterTimer := none }).running = s.running := rfl
  cases g : s.running <;> simp [coverOpen, h, g] <;> rfl

/-- The sequencer enters IDLE with its timer and its alarm cancelled (R34, R42). -/
theorem enterIdle_eq (s : State) : enterIdle s = { s with
    seq := { s.seq with phase := .idle, cadenceTimer := none, keptExpiry := false, wakeAlarm := none } } := rfl

/-- An opening opens its sub in the ring's choice and checks the sub limit; without a choice nothing opens (R32,
R61). -/
theorem openSub_cases (kind : SubKind) (s : State) :
    (∃ i, s.ring.openingChoice = some i ∧ openSub kind s = checkSubLimit (openIn i kind s)) ∨
    (s.ring.openingChoice = none ∧ openSub kind s = s) := by
  cases h : s.ring.openingChoice <;> simp [openSub, h]

/-- A start (R31): the four ways it can go. -/
theorem startSub_cases (s : State) :
    (s.subLimitMet = true ∧ s.plan.autoFinish = true ∧ startSub s = enterDraining .alarm s) ∨
    (s.subLimitMet = true ∧ s.plan.autoFinish = false ∧ startSub s = cadenceAfterNoSub s) ∨
    (s.subLimitMet = false ∧ s.ring.openingChoice = none ∧ startSub s = skipStart s) ∨
    (s.subLimitMet = false ∧ s.darkDue = true ∧ startSub s = beginHandshake s) ∨
    (s.subLimitMet = false ∧ s.darkDue = false ∧ startSub s = openSub .light s) := by
  cases h : s.subLimitMet <;> cases g : s.plan.autoFinish <;> cases c : s.ring.openingChoice <;> cases d : s.darkDue <;>
    simp [startSub, h, g, c, d]

/-! ## The ring -/

/-- Steps 1 to 5 of a retirement (R64). -/
theorem retireRecord_eq (i : Fin 6) (o : SubOutcome) (resolved : Bool) (s : State) : retireRecord i o resolved s =
    raise .subRetired { s with
      ring := { s.ring with
        desc := s.ring.desc.set i { s.ring.desc[i] with state := .retired, outcome := some o }
        lastRetired := s.ring.desc[i].sub }
      session := { s.session with
        totals := s.session.totals.retire o s.ring.desc[i].exposure
        attempts := attemptsAfter o s.session.attempts
        movedCount := movedAfter o resolved s.session.movedCount
        geometryCount := geometryAfter o s.session.geometryCount } } := rfl

/-- A change of one descriptor is seen at its index. -/
@[simp] theorem State.onDesc_self (s : State) (i : Fin 6) (f : Descriptor → Descriptor) :
    (s.onDesc i f).ring.desc[i] = f s.ring.desc[i] := by
  simp [State.onDesc]

/-- A change of one descriptor is not seen at another index. -/
theorem State.onDesc_other (s : State) {i j : Fin 6} (f : Descriptor → Descriptor) (h : i ≠ j) :
    (s.onDesc i f).ring.desc[j] = s.ring.desc[j] := by
  have : i.val ≠ j.val := fun e => h (Fin.ext e)
  simp [State.onDesc, this]

/-- The ring is drained exactly when nothing is in flight (R13). -/
theorem Ring.drained_iff (r : Ring) : r.drained = true ↔ ∀ i : Fin 6, r.desc[i].inFlight = false := by
  simp [Ring.drained, Ring.first]

/-- No descriptor is READING exactly when the search finds none. -/
theorem State.reading_none_iff (s : State) : s.reading = none ↔ ∀ i : Fin 6, s.ring.desc[i].state ≠ .reading := by
  simp [State.reading, Ring.first]

/-- The READING descriptor found is READING. -/
theorem State.reading_some {s : State} {i : Fin 6} (h : s.reading = some i) : s.ring.desc[i].state = .reading := by
  simpa using List.find?_some h

/-! ## The Dark Library and the engine -/

/-- A slot emptied leaves the use order (R92). -/
theorem emptySlot_eq (i : Fin 4) (s : State) : emptySlot i s = { s with darks := { s.darks with
    slots := s.darks.slots.set i DarkSlot.emptied, useOrder := s.darks.useOrder.erase i } } := rfl

/-- A slot whose last-used number is written stands at the most recent end (R92). -/
theorem touchSlot_eq (i : Fin 4) (sub : Nat) (s : State) : touchSlot i sub s = { s with darks := { s.darks with
    slots := s.darks.slots.set i { s.darks.slots[i] with lastUsed := sub }
    useOrder := s.darks.useOrder.erase i ++ [i] } } := rfl

/-- The freed engine holds no job. -/
theorem freeEngine_eq (s : State) : freeEngine s = { s with
    engine := { s.engine with job := .none, work := .none, tilesDone := 0, stop := .none } } := rfl

/-- A job that a close ends leaves the planes alone and empties the slot of a dark merge (R96, R122). -/
theorem closeStop_cases (s : State) :
    (∃ k, s.darks.mergeTarget = some k ∧ (closeStop s).darks = { s.darks with
      slots := s.darks.slots.set k DarkSlot.emptied, useOrder := s.darks.useOrder.erase k
      mergeTarget := none, inUse := none }) ∨
    (s.darks.mergeTarget = none ∧ (closeStop s).darks = { s.darks with inUse := none }) := by
  cases h : s.darks.mergeTarget <;> simp [closeStop, giveUpMergeTarget, h, clearInUse, emptySlot, State.onSlot]

/-- A job reads no tile exactly when it is a measurement without a calibration on the aligned path (R75). -/
theorem tileless_iff (s : State) : s.tileless = true ↔
    (∃ i, s.engine.job = .descriptor i) ∧ s.engine.work = .measuring true none := by
  unfold State.tileless
  split <;> simp_all

/-- What a close makes of the engine: the marks are cleared, and the job ends at once or is asked to stop (R122). -/
theorem engineClose_cases (s : State) :
    let dropped := { s.engine with clearPending := false, finishPending := false, previewPending := false }
    (s.tileless = true ∧ (engineClose s).engine = { dropped with
      job := .none, work := .none, tilesDone := 0, stop := .none }) ∨
    (s.tileless = false ∧ (engineClose s).engine = { dropped with
      stop := if s.engine.job = .none then .none else .close }) := by
  cases h : s.tileless <;> simp [engineClose, freeEngine, State.tileless, State.onEngine, State.onResults] at h ⊢ <;> simp [h]

/-- A release of REMOTE in a REMOTE_GATE light ends it, or is kept (R37). -/
theorem releaseGate_cases (c : CurrentExposure) (s : State) :
    (500 ≤ (s.seq.clock - c.start).toNat ∧ releaseGate c s = endExposure c s) ∨
    ((s.seq.clock - c.start).toNat < 500 ∧
      releaseGate c s = { s with seq := { s.seq with current := some { c with released := true } } }) := by
  rcases Nat.lt_or_ge (s.seq.clock - c.start).toNat 500 with h | h
  · right
    exact ⟨h, if_neg (Nat.not_le.mpr h)⟩
  · left
    exact ⟨h, if_pos h⟩

/-- The last-used sub number stays when a slot is taken for a band (R92, R93). -/
theorem takeSlot_lastUsed (i : Fin 4) (band : Nat) (s : State) :
    (takeSlot i band s).darks.slots[i].lastUsed = s.darks.slots[i].lastUsed := by
  simp [takeSlot, State.onSlot, State.onDarks]

end Sys2Proof.Machine
end

