-- ==== Sys2Proof/Laws/PerInstr.lean ====
section
/-! SUPPORT. What holds of every command as syntax, one lemma a constructor: a well-formed link command is read back
from the bytes of its select period (R154, R167), and a command that is no link command has none. -/

namespace Sys2Proof.Laws.SelectPeriodRoundTrip

open Sys2Proof

/-- The bytes of a well-formed link command decode to it. -/
def Statement (i : Instr) : Prop :=
  i.WellFormed = true → ∀ (l : Link) (b : List Byte), encodeSelectPeriod i = some (l, b) →
    decodeSelectPeriod l b = some i

/-- A code that names no request is not in the catalogue. -/
theorem requestNamed_none {code : Byte} (h : isRequestCode code = false) (p : SelectPeriod) :
    requestNamed code p = none := by
  unfold requestNamed
  split <;> first | rfl | simp_all [isRequestCode]

theorem fullReset : Statement (.fullReset) := fun _ _ _ h => nomatch h
theorem arm (p : SelectPeriod) : Statement (.arm p) := fun _ _ _ h => by cases h; rfl
theorem start (p : SelectPeriod) : Statement (.start p) := fun _ _ _ h => by cases h; rfl
theorem pause (p : SelectPeriod) : Statement (.pause p) := fun _ _ _ h => by cases h; rfl
theorem resume (p : SelectPeriod) : Statement (.resume p) := fun _ _ _ h => by cases h; rfl
theorem finish (p : SelectPeriod) : Statement (.finish p) := fun _ _ _ h => by cases h; rfl
theorem extend (p : SelectPeriod) : Statement (.extend p) := fun _ _ _ h => by cases h; rfl
theorem closeSession (p : SelectPeriod) : Statement (.closeSession p) := fun _ _ _ h => by cases h; rfl
theorem writePlan (p : SelectPeriod) : Statement (.writePlan p) := fun _ _ _ h => by cases h; rfl
theorem readPlan (p : SelectPeriod) : Statement (.readPlan p) := fun _ _ _ h => by cases h; rfl
theorem selectPlan (p : SelectPeriod) : Statement (.selectPlan p) := fun _ _ _ h => by cases h; rfl
theorem setPartSettings (p : SelectPeriod) : Statement (.setPartSettings p) := fun _ _ _ h => by cases h; rfl
theorem readPartSettings (p : SelectPeriod) : Statement (.readPartSettings p) := fun _ _ _ h => by cases h; rfl
theorem readSequencer (p : SelectPeriod) : Statement (.readSequencer p) := fun _ _ _ h => by cases h; rfl
theorem triggerSub (p : SelectPeriod) : Statement (.triggerSub p) := fun _ _ _ h => by cases h; rfl
theorem configureSensor (p : SelectPeriod) : Statement (.configureSensor p) := fun _ _ _ h => by cases h; rfl
theorem readSensor (p : SelectPeriod) : Statement (.readSensor p) := fun _ _ _ h => by cases h; rfl
theorem readSubOutcome (p : SelectPeriod) : Statement (.readSubOutcome p) := fun _ _ _ h => by cases h; rfl
theorem readRing (p : SelectPeriod) : Statement (.readRing p) := fun _ _ _ h => by cases h; rfl
theorem reportPose (p : SelectPeriod) : Statement (.reportPose p) := fun _ _ _ h => by cases h; rfl
theorem dropStar (p : SelectPeriod) : Statement (.dropStar p) := fun _ _ _ h => by cases h; rfl
theorem readDrift (p : SelectPeriod) : Statement (.readDrift p) := fun _ _ _ h => by cases h; rfl
theorem readGuidance (p : SelectPeriod) : Statement (.readGuidance p) := fun _ _ _ h => by cases h; rfl
theorem readStarTable (p : SelectPeriod) : Statement (.readStarTable p) := fun _ _ _ h => by cases h; rfl
theorem clearDarkSlot (p : SelectPeriod) : Statement (.clearDarkSlot p) := fun _ _ _ h => by cases h; rfl
theorem readDarkLibrary (p : SelectPeriod) : Statement (.readDarkLibrary p) := fun _ _ _ h => by cases h; rfl
theorem writeTiles (p : SelectPeriod) : Statement (.writeTiles p) := fun _ _ _ h => by cases h; rfl
theorem readTiles (p : SelectPeriod) : Statement (.readTiles p) := fun _ _ _ h => by cases h; rfl
theorem readEngine (p : SelectPeriod) : Statement (.readEngine p) := fun _ _ _ h => by cases h; rfl
theorem readBlock (p : SelectPeriod) : Statement (.readBlock p) := fun _ _ _ h => by cases h; rfl
theorem requestPreview (p : SelectPeriod) : Statement (.requestPreview p) := fun _ _ _ h => by cases h; rfl
theorem readPreview (p : SelectPeriod) : Statement (.readPreview p) := fun _ _ _ h => by cases h; rfl
theorem readTotals (p : SelectPeriod) : Statement (.readTotals p) := fun _ _ _ h => by cases h; rfl
theorem setPower (p : SelectPeriod) : Statement (.setPower p) := fun _ _ _ h => by cases h; rfl
theorem setStayAwake (p : SelectPeriod) : Statement (.setStayAwake p) := fun _ _ _ h => by cases h; rfl
theorem readPower (p : SelectPeriod) : Statement (.readPower p) := fun _ _ _ h => by cases h; rfl
theorem readEvents (p : SelectPeriod) : Statement (.readEvents p) := fun _ _ _ h => by cases h; rfl
theorem acknowledgeEvents (p : SelectPeriod) : Statement (.acknowledgeEvents p) := fun _ _ _ h => by cases h; rfl
theorem setEventEnable (p : SelectPeriod) : Statement (.setEventEnable p) := fun _ _ _ h => by cases h; rfl
theorem setEventOrder (p : SelectPeriod) : Statement (.setEventOrder p) := fun _ _ _ h => by cases h; rfl
theorem readStatus (p : SelectPeriod) : Statement (.readStatus p) := fun _ _ _ h => by cases h; rfl
theorem unknownRequest (code : Byte) (p : SelectPeriod) : Statement (.unknownRequest code p) := by
  intro hw l b h
  simp only [encodeSelectPeriod, Option.some.injEq, Prod.mk.injEq] at h
  obtain ⟨rfl, rfl⟩ := h
  simp only [Instr.WellFormed, Bool.and_eq_true, Bool.not_eq_true', bne_iff_ne] at hw
  simp [decodeSelectPeriod, hw.2, requestNamed_none hw.1]
theorem collection (link : Link) (clocks : Nat) : Statement (.collection link clocks) := by
  intro _ l b h
  simp only [encodeSelectPeriod, Option.some.injEq, Prod.mk.injEq] at h
  obtain ⟨rfl, rfl⟩ := h
  simp [decodeSelectPeriod]
theorem remoteLineChange (low : Bool) : Statement (.remoteLineChange low) := fun _ _ _ h => nomatch h
theorem remotePress : Statement (.remotePress) := fun _ _ _ h => nomatch h
theorem remoteRelease : Statement (.remoteRelease) := fun _ _ _ h => nomatch h
theorem shutterClosedAssert : Statement (.shutterClosedAssert) := fun _ _ _ h => nomatch h
theorem shutterClosedDeassert : Statement (.shutterClosedDeassert) := fun _ _ _ h => nomatch h
theorem holdEntry : Statement (.holdEntry) := fun _ _ _ h => nomatch h
theorem supplyReturn : Statement (.supplyReturn) := fun _ _ _ h => nomatch h
theorem reserveExpiry : Statement (.reserveExpiry) := fun _ _ _ h => nomatch h
theorem frameStart : Statement (.frameStart) := fun _ _ _ h => nomatch h
theorem imageLine (lanes : List (List Pixel)) : Statement (.imageLine lanes) := fun _ _ _ h => nomatch h
theorem trailerLine (frameCounter : BitVec 16) (temperature : BitVec 12) : Statement (.trailerLine frameCounter temperature) := fun _ _ _ h => nomatch h
theorem cadenceTimerExpiry : Statement (.cadenceTimerExpiry) := fun _ _ _ h => nomatch h
theorem sequencerStart : Statement (.sequencerStart) := fun _ _ _ h => nomatch h
theorem exposureEnd : Statement (.exposureEnd) := fun _ _ _ h => nomatch h
theorem closeTimeout : Statement (.closeTimeout) := fun _ _ _ h => nomatch h
theorem openTimeout : Statement (.openTimeout) := fun _ _ _ h => nomatch h
theorem wakeAlarmFires : Statement (.wakeAlarmFires) := fun _ _ _ h => nomatch h
theorem readoutTimeout : Statement (.readoutTimeout) := fun _ _ _ h => nomatch h
theorem durationLimitReached : Statement (.durationLimitReached) := fun _ _ _ h => nomatch h
theorem engineTakesJob : Statement (.engineTakesJob) := fun _ _ _ h => nomatch h
theorem engineTileComplete : Statement (.engineTileComplete) := fun _ _ _ h => nomatch h
theorem planeClearComplete : Statement (.planeClearComplete) := fun _ _ _ h => nomatch h
theorem measurementComplete : Statement (.measurementComplete) := fun _ _ _ h => nomatch h
theorem lightMergeComplete : Statement (.lightMergeComplete) := fun _ _ _ h => nomatch h
theorem darkMergeComplete : Statement (.darkMergeComplete) := fun _ _ _ h => nomatch h
theorem finishComplete : Statement (.finishComplete) := fun _ _ _ h => nomatch h
theorem previewComplete : Statement (.previewComplete) := fun _ _ _ h => nomatch h
theorem drainComplete : Statement (.drainComplete) := fun _ _ _ h => nomatch h
theorem dozeEntry : Statement (.dozeEntry) := fun _ _ _ h => nomatch h
theorem powerTransitionComplete : Statement (.powerTransitionComplete) := fun _ _ _ h => nomatch h
theorem waitingRequestCarriedOut : Statement (.waitingRequestCarriedOut) := fun _ _ _ h => nomatch h
theorem bulkReadComplete : Statement (.bulkReadComplete) := fun _ _ _ h => nomatch h
theorem pfWarnLineChange (asserted : Bool) : Statement (.pfWarnLineChange asserted) := fun _ _ _ h => nomatch h

end Sys2Proof.Laws.SelectPeriodRoundTrip
end

