-- ==== Sys2Proof/Laws/Records.lean ====
section
/-! SUPPORT. The lengths of the fields of a record, and how a payload made of fields is taken apart: what a proof about
the bytes of a response cites in place of unfolding the encodings. -/

namespace Sys2Proof.Machine

open Sys2Proof.Safety

/-! ## Lengths (R169) -/

@[simp] theorem u8_length (n : Nat) : (u8 n).length = 1 := by simp [u8]
@[simp] theorem u16_length (n : Nat) : (u16 n).length = 2 := by simp [u16, littleEndian]
@[simp] theorem u32_length (n : Nat) : (u32 n).length = 4 := by simp [u32, littleEndian]
@[simp] theorem u48_length (n : Nat) : (u48 n).length = 6 := by simp [u48, littleEndian]
@[simp] theorem s16_length (i : Int) : (s16 i).length = 2 := by simp [s16, littleEndian]
@[simp] theorem s24_length (i : Int) : (s24 i).length = 3 := by simp [s24, littleEndian]
@[simp] theorem s32_length (i : Int) : (s32 i).length = 4 := by simp [s32, littleEndian]
@[simp] theorem u32Clock_length (c : Clock) : (u32Clock c).length = 4 := by simp [u32Clock]
@[simp] theorem flag_length (b : Bool) : (flag b).length = 1 := by simp [flag, u8]
@[simp] theorem codeOrFf_length (o : Option Nat) : (codeOrFf o).length = 1 := by simp [codeOrFf, u8]
@[simp] theorem eventSet_length (e : BitVec 16) : (eventSet e).length = 2 := by simp [eventSet]
@[simp] theorem s16Pair_length (r : Int × Int) : (s16Pair r).length = 4 := by simp [s16Pair]
@[simp] theorem s32Pair_length (r : Int × Int) : (s32Pair r).length = 8 := by simp [s32Pair]

/-- An item that may be absent takes its presence byte and its width either way (R169). -/
@[simp] theorem presence_length {α : Type} {width : Nat} {enc : α → List Byte} {o : Option α}
    (h : ∀ a, (enc a).length = width) : (presence width enc o).length = width + 1 := by
  cases o <;> simp [presence, h]


@[simp] theorem exposureRecord_length (c : CurrentExposure) : (exposureRecord c).length = 12 := by simp [exposureRecord]
@[simp] theorem ringEntry_length (r : Ring) (i : Fin 6) : (ringEntry r i).length = 7 := by simp [ringEntry]
@[simp] theorem poseEntryRecord_length (e : PoseEntry) : (poseEntryRecord e).length = 15 := by simp [poseEntryRecord]

@[simp] theorem jobRecord_length (s : State) : (jobRecord s).length = 6 := by
  unfold jobRecord
  cases s.engine.job <;> simp

/-- Entries of one width, laid one after another. -/
theorem flatMap_length_of {α : Type} (enc : α → List Byte) (width : Nat) (h : ∀ a, (enc a).length = width)
    (l : List α) : (l.flatMap enc).length = l.length * width := by
  simp [List.length_flatMap, h]

/-! ## Taking a payload apart -/

/-- A field that starts past the first part of a payload starts so much earlier in the rest. -/
theorem drop_past {first rest : List Byte} {n : Nat} (h : first.length ≤ n) :
    (first ++ rest).drop n = rest.drop (n - first.length) := by
  rw [List.drop_append, List.drop_eq_nil_of_le h, List.nil_append]

/-- The field that stands first in a payload. -/
theorem take_first (first rest : List Byte) : (first ++ rest).take first.length = first := by simp

/-- A payload carries a list of fields when it carries the first and the others. -/
theorem carriesFields_cons (payload : List Byte) (offset : Nat) (field : List Byte) (fields : List (Nat × List Byte)) :
    CarriesFields payload ((offset, field) :: fields) ↔
      (payload.drop offset).take field.length = field ∧ CarriesFields payload fields := by
  simp [CarriesFields]

/-- A payload carries no field of an empty list. -/
theorem carriesFields_nil (payload : List Byte) : CarriesFields payload [] := by simp [CarriesFields]

end Sys2Proof.Machine
end

