-- ==== Sys2Proof/Laws/Requests.lean ====
section
/-! SUPPORT. The form of an answered request: what its taking leaves alone, and the answer of a request whose taking is
quiet. -/

namespace Sys2Proof.Machine

open Sys2Proof.Safety

/-! ## What the links' own updates leave alone -/

@[simp] theorem State.onLink_session (s : State) (l : Link) (f : LinkState → LinkState) :
    (s.onLink l f).session = s.session := by cases l <;> rfl
@[simp] theorem State.onLink_seq (s : State) (l : Link) (f : LinkState → LinkState) :
    (s.onLink l f).seq = s.seq := by cases l <;> rfl
@[simp] theorem State.onLink_port (s : State) (l : Link) (f : LinkState → LinkState) :
    (s.onLink l f).port = s.port := by cases l <;> rfl
@[simp] theorem State.onLink_ring (s : State) (l : Link) (f : LinkState → LinkState) :
    (s.onLink l f).ring = s.ring := by cases l <;> rfl
@[simp] theorem State.onLink_guidance (s : State) (l : Link) (f : LinkState → LinkState) :
    (s.onLink l f).guidance = s.guidance := by cases l <;> rfl
@[simp] theorem State.onLink_darks (s : State) (l : Link) (f : LinkState → LinkState) :
    (s.onLink l f).darks = s.darks := by cases l <;> rfl
@[simp] theorem State.onLink_tileMap (s : State) (l : Link) (f : LinkState → LinkState) :
    (s.onLink l f).tileMap = s.tileMap := by cases l <;> rfl
@[simp] theorem State.onLink_engine (s : State) (l : Link) (f : LinkState → LinkState) :
    (s.onLink l f).engine = s.engine := by cases l <;> rfl
@[simp] theorem State.onLink_results (s : State) (l : Link) (f : LinkState → LinkState) :
    (s.onLink l f).results = s.results := by cases l <;> rfl
@[simp] theorem State.onLink_power (s : State) (l : Link) (f : LinkState → LinkState) :
    (s.onLink l f).power = s.power := by cases l <;> rfl
@[simp] theorem State.onLink_lines (s : State) (l : Link) (f : LinkState → LinkState) :
    (s.onLink l f).lines = s.lines := by cases l <;> rfl
@[simp] theorem State.onLink_dram (s : State) (l : Link) (f : LinkState → LinkState) :
    (s.onLink l f).dram = s.dram := by cases l <;> rfl
@[simp] theorem State.onLink_free (s : State) (l : Link) (f : LinkState → LinkState) :
    (s.onLink l f).free = s.free := by cases l <;> rfl
@[simp] theorem State.onLink_pending (s : State) (l : Link) (f : LinkState → LinkState) :
    (s.onLink l f).pending = s.pending := by cases l <;> rfl

/-- A link's items after their own update. -/
@[simp] theorem State.link_onLink (s : State) (l : Link) (f : LinkState → LinkState) :
    (s.onLink l f).link l = f (s.link l) := by
  cases l <;> rfl

/-- Two updates of one link are one. -/
theorem State.onLink_onLink (s : State) (l : Link) (f g : LinkState → LinkState) :
    (s.onLink l f).onLink l g = s.onLink l fun x => g (f x) := by
  cases l <;> rfl

@[simp] theorem taken_session (p : SelectPeriod) (s : State) : (taken p s).session = s.session := by simp [taken]
@[simp] theorem taken_seq (p : SelectPeriod) (s : State) : (taken p s).seq = s.seq := by simp [taken]
@[simp] theorem taken_port (p : SelectPeriod) (s : State) : (taken p s).port = s.port := by simp [taken]
@[simp] theorem taken_ring (p : SelectPeriod) (s : State) : (taken p s).ring = s.ring := by simp [taken]
@[simp] theorem taken_guidance (p : SelectPeriod) (s : State) : (taken p s).guidance = s.guidance := by simp [taken]
@[simp] theorem taken_darks (p : SelectPeriod) (s : State) : (taken p s).darks = s.darks := by simp [taken]
@[simp] theorem taken_tileMap (p : SelectPeriod) (s : State) : (taken p s).tileMap = s.tileMap := by simp [taken]
@[simp] theorem taken_engine (p : SelectPeriod) (s : State) : (taken p s).engine = s.engine := by simp [taken]
@[simp] theorem taken_results (p : SelectPeriod) (s : State) : (taken p s).results = s.results := by simp [taken]
@[simp] theorem taken_power (p : SelectPeriod) (s : State) : (taken p s).power = s.power := by simp [taken]
@[simp] theorem taken_lines (p : SelectPeriod) (s : State) : (taken p s).lines = s.lines := by simp [taken]
@[simp] theorem taken_dram (p : SelectPeriod) (s : State) : (taken p s).dram = s.dram := by simp [taken]
@[simp] theorem taken_free (p : SelectPeriod) (s : State) : (taken p s).free = s.free := by simp [taken]
@[simp] theorem taken_pending (p : SelectPeriod) (s : State) : (taken p s).pending = s.pending := by simp [taken]

@[simp] theorem answered_session (p : SelectPeriod) (code : Byte) (o : ReqOutcome) (fs : List Nat) (d : List Byte)
    (s : State) : (answered p code o fs d s).session = s.session := by simp [answered]
@[simp] theorem answered_seq (p : SelectPeriod) (code : Byte) (o : ReqOutcome) (fs : List Nat) (d : List Byte)
    (s : State) : (answered p code o fs d s).seq = s.seq := by simp [answered]
@[simp] theorem answered_port (p : SelectPeriod) (code : Byte) (o : ReqOutcome) (fs : List Nat) (d : List Byte)
    (s : State) : (answered p code o fs d s).port = s.port := by simp [answered]
@[simp] theorem answered_ring (p : SelectPeriod) (code : Byte) (o : ReqOutcome) (fs : List Nat) (d : List Byte)
    (s : State) : (answered p code o fs d s).ring = s.ring := by simp [answered]
@[simp] theorem answered_guidance (p : SelectPeriod) (code : Byte) (o : ReqOutcome) (fs : List Nat) (d : List Byte)
    (s : State) : (answered p code o fs d s).guidance = s.guidance := by simp [answered]
@[simp] theorem answered_darks (p : SelectPeriod) (code : Byte) (o : ReqOutcome) (fs : List Nat) (d : List Byte)
    (s : State) : (answered p code o fs d s).darks = s.darks := by simp [answered]
@[simp] theorem answered_tileMap (p : SelectPeriod) (code : Byte) (o : ReqOutcome) (fs : List Nat) (d : List Byte)
    (s : State) : (answered p code o fs d s).tileMap = s.tileMap := by simp [answered]
@[simp] theorem answered_engine (p : SelectPeriod) (code : Byte) (o : ReqOutcome) (fs : List Nat) (d : List Byte)
    (s : State) : (answered p code o fs d s).engine = s.engine := by simp [answered]
@[simp] theorem answered_results (p : SelectPeriod) (code : Byte) (o : ReqOutcome) (fs : List Nat) (d : List Byte)
    (s : State) : (answered p code o fs d s).results = s.results := by simp [answered]
@[simp] theorem answered_power (p : SelectPeriod) (code : Byte) (o : ReqOutcome) (fs : List Nat) (d : List Byte)
    (s : State) : (answered p code o fs d s).power = s.power := by simp [answered]
@[simp] theorem answered_lines (p : SelectPeriod) (code : Byte) (o : ReqOutcome) (fs : List Nat) (d : List Byte)
    (s : State) : (answered p code o fs d s).lines = s.lines := by simp [answered]
@[simp] theorem answered_dram (p : SelectPeriod) (code : Byte) (o : ReqOutcome) (fs : List Nat) (d : List Byte)
    (s : State) : (answered p code o fs d s).dram = s.dram := by simp [answered]
@[simp] theorem answered_free (p : SelectPeriod) (code : Byte) (o : ReqOutcome) (fs : List Nat) (d : List Byte)
    (s : State) : (answered p code o fs d s).free = s.free := by simp [answered]
@[simp] theorem answered_pending (p : SelectPeriod) (code : Byte) (o : ReqOutcome) (fs : List Nat) (d : List Byte)
    (s : State) : (answered p code o fs d s).pending = s.pending := by simp [answered]

@[simp] theorem respond_session (code : Byte) (p : SelectPeriod) (a : Answer) :
    (respond code p a).session = a.state.session := by simp [respond]
@[simp] theorem respond_seq (code : Byte) (p : SelectPeriod) (a : Answer) :
    (respond code p a).seq = a.state.seq := by simp [respond]
@[simp] theorem respond_port (code : Byte) (p : SelectPeriod) (a : Answer) :
    (respond code p a).port = a.state.port := by simp [respond]
@[simp] theorem respond_ring (code : Byte) (p : SelectPeriod) (a : Answer) :
    (respond code p a).ring = a.state.ring := by simp [respond]
@[simp] theorem respond_guidance (code : Byte) (p : SelectPeriod) (a : Answer) :
    (respond code p a).guidance = a.state.guidance := by simp [respond]
@[simp] theorem respond_darks (code : Byte) (p : SelectPeriod) (a : Answer) :
    (respond code p a).darks = a.state.darks := by simp [respond]
@[simp] theorem respond_tileMap (code : Byte) (p : SelectPeriod) (a : Answer) :
    (respond code p a).tileMap = a.state.tileMap := by simp [respond]
@[simp] theorem respond_engine (code : Byte) (p : SelectPeriod) (a : Answer) :
    (respond code p a).engine = a.state.engine := by simp [respond]
@[simp] theorem respond_results (code : Byte) (p : SelectPeriod) (a : Answer) :
    (respond code p a).results = a.state.results := by simp [respond]
@[simp] theorem respond_power (code : Byte) (p : SelectPeriod) (a : Answer) :
    (respond code p a).power = a.state.power := by simp [respond]
@[simp] theorem respond_lines (code : Byte) (p : SelectPeriod) (a : Answer) :
    (respond code p a).lines = a.state.lines := by simp [respond]
@[simp] theorem respond_dram (code : Byte) (p : SelectPeriod) (a : Answer) :
    (respond code p a).dram = a.state.dram := by simp [respond]
@[simp] theorem respond_free (code : Byte) (p : SelectPeriod) (a : Answer) :
    (respond code p a).free = a.state.free := by simp [respond]
@[simp] theorem respond_pending (code : Byte) (p : SelectPeriod) (a : Answer) :
    (respond code p a).pending = a.state.pending := by simp [respond]

/-! ## Answers -/

/-- A quiet taking discards the pending response and sends idle bytes, and nothing else (R154, R155). -/
theorem takeRequest_quiet {p : SelectPeriod} {s : State} (wakes : Bool) (h : QuietTaking p s) :
    takeRequest p wakes s = taken p s := by
  obtain ⟨h1, h2⟩ := h
  cases hl : p.link <;> cases wakes <;> simp [takeRequest, taken, hl, standbyWake, h1, giveUpWaiting]
  all_goals simp [h2 hl]

/-- The answer of a request whose taking is quiet and whose bytes suffice for its layout. -/
theorem answerWaking_quiet {p : SelectPeriod} {s : State} (wakes : Bool) (code : Byte) {need : Nat}
    (judge : State → Answer) (h : QuietTaking p s) (hb : need ≤ byteCount p) :
    answerWaking wakes code p need judge s = respond code p (judge (taken p s)) := by
  have : ¬byteCount p < need := by omega
  simp [answerWaking, takeRequest_quiet wakes h, this]

/-- The answer of a request too short for its layout (R154). -/
theorem answerWaking_short {p : SelectPeriod} {s : State} (wakes : Bool) (code : Byte) {need : Nat}
    (judge : State → Answer) (h : QuietTaking p s) (hb : byteCount p < need) :
    answerWaking wakes code p need judge s = answered p code .refusedRange [lengthField] [] s := by
  cases hl : p.link <;>
    simp [answerWaking, takeRequest_quiet wakes h, hb, refusedRange, respond, answered, taken, hl, State.onLink,
      State.onPLink, State.onSLink]

/-- A request on the P-link is quiet outside STANDBY. -/
theorem quietTaking_pLink {p : SelectPeriod} {s : State} (hp : p.link = .p) (h : s.power.state ≠ .standby) :
    QuietTaking p s :=
  ⟨h, by simp [hp]⟩

/-- An answer that changes nothing is the request answered with the state as it was. -/
theorem respond_taken (code : Byte) (p : SelectPeriod) (o : ReqOutcome) (fs : List Nat) (d : List Byte) (s : State) :
    respond code p ⟨taken p s, o, fs, d, none⟩ = answered p code o fs d s := by
  cases hl : p.link <;> simp [respond, answered, taken, hl, State.onLink, State.onPLink, State.onSLink]

end Sys2Proof.Machine
end

