-- ==== Sys2Proof/Tests/Slice0.lean ====
section
/-! SUPPORT. Our own tests: ill-formed commands refused, select periods spelled from section 10.1, single steps with the
figures of the manual's worked examples, and for each statement with hypotheses a witness that meets them. -/

namespace Sys2Proof.Tests

open Sys2Proof Sys2Proof.Machine Sys2Proof.Safety

/-! ## Helpers -/

/-- A request on the P-link: the tag and the fields. -/
def onP (b : List Byte) : SelectPeriod := ⟨.p, b⟩

/-- A request on the S-link. -/
def onS (b : List Byte) : SelectPeriod := ⟨.s, b⟩

/-- The state after a step that answers one. -/
def after (o : Host.Outcome State Fault Refusal) : Option State :=
  match o with
  | .next t => some t
  | _ => none

/-- The session of the reset part in a state. -/
def inSession (st : SessionState) : State :=
  { State.reset with session := { State.reset.session with state := st } }

/-- A session that runs with its reference set and waits for a start. -/
def integrating : State :=
  { State.reset with
    session := { State.reset.session with state := .integrating, referenceSet := true }
    seq := { State.reset.seq with phase := .waitStart } }

/-- A part in a power state, with a session in a state. -/
def powered (p : PowerState) (st : SessionState) : State :=
  { inSession st with power := { State.reset.power with state := p } }

/-- A state with one descriptor of the ring replaced. -/
def withDesc (i : Fin 6) (d : Descriptor) (s : State) : State :=
  { s with ring := { s.ring with desc := s.ring.desc.set i d } }

/-- A light of a sub number in a state of the ring, with a temperature. -/
def lightIn (st : DescState) (sub : Nat) : Descriptor :=
  { Descriptor.opened sub .light 0 Plan.default with state := st, temperature := some 97 }

/-- A dark of a sub number in a state of the ring, with a temperature. -/
def darkIn (st : DescState) (sub : Nat) : Descriptor :=
  { Descriptor.opened sub .dark 0 Plan.default with state := st, temperature := some 97 }

/-- A small sensor of one tile, for tests that go through tiles. -/
def oneTile (s : State) : State := { s with port := { s.port with width := 64, height := 64 } }

/-- The reset part with its active plan changed. -/
def withPlan (f : Plan → Plan) (s : State) : State :=
  { s with session := { s.session with plans := s.session.plans.set s.session.activePlan (f s.plan) } }

/-- The outcome in a link's READY response. -/
def outcomeOf (l : Link) (s : State) : Option ReqOutcome := (s.link l).response.map fun r => r.response.outcome

/-! ## Well-formed commands -/

/-- A code of the catalogue is no unknown request. -/
theorem test_unknownRequest_refuses_a_named_code : Instr.WellFormed (.unknownRequest 0x28#8 (onP [0])) = false := by
  decide

/-- The collect code is no unknown request. -/
theorem test_unknownRequest_refuses_the_collect_code : Instr.WellFormed (.unknownRequest 0x80#8 (onP [])) = false := by
  decide

/-- The codes 00h and 29h name nothing (R167). -/
theorem test_unknownRequest_takes_the_others :
    Instr.WellFormed (.unknownRequest 0x00#8 (onP [])) = true ∧
      Instr.WellFormed (.unknownRequest 0x29#8 (onS [7])) = true := by
  decide

/-- A line comes over two or four lanes. -/
theorem test_imageLine_refuses_three_lanes :
    Instr.WellFormed (.imageLine [[1], [2], [3]]) = false ∧ Instr.WellFormed (.imageLine [[1], [2]]) = true := by
  decide

/-! ## Select periods, spelled from section 10.1 -/

theorem test_spelled_sessions :
    decodeSelectPeriod .p [0x01, 0x11] = some (.arm (onP [0x11])) ∧
      decodeSelectPeriod .s [0x03, 0x12] = some (.pause (onS [0x12])) ∧
      decodeSelectPeriod .p [0x07, 0x13] = some (.closeSession (onP [0x13])) := by
  decide

theorem test_spelled_plans :
    decodeSelectPeriod .p [0x0a, 0x21, 0x01] = some (.selectPlan (onP [0x21, 0x01])) ∧
      decodeSelectPeriod .p [0x0b, 0x22, 0x1e, 0x01] = some (.setPartSettings (onP [0x22, 0x1e, 0x01])) ∧
      decodeSelectPeriod .s [0x0c, 0x23] = some (.readPartSettings (onS [0x23])) := by
  decide

theorem test_spelled_guidance :
    decodeSelectPeriod .s [0x13, 1, 3, 0, 0, 0, 0, 0, 0, 0, 0, 0, 0] =
        some (.reportPose (onS [1, 3, 0, 0, 0, 0, 0, 0, 0, 0, 0, 0])) ∧
      decodeSelectPeriod .s [0x15, 2] = some (.readDrift (onS [2])) := by
  decide

theorem test_spelled_results :
    decodeSelectPeriod .p [0x1d, 9, 0, 0, 0, 0, 0, 0x80, 0, 0] = some (.readBlock (onP [9, 0, 0, 0, 0, 0, 0x80, 0, 0])) ∧
      decodeSelectPeriod .p [0x20, 9] = some (.readTotals (onP [9])) := by
  decide

theorem test_spelled_power_and_links :
    decodeSelectPeriod .p [0x21, 5, 1] = some (.setPower (onP [5, 1])) ∧
      decodeSelectPeriod .s [0x28, 5] = some (.readStatus (onS [5])) ∧
      decodeSelectPeriod .p [0x29, 5] = some (.unknownRequest 0x29#8 (onP [5])) ∧
      decodeSelectPeriod .p [0x00] = some (.unknownRequest 0x00#8 (onP [])) ∧
      decodeSelectPeriod .s [0x80, 0, 0, 0] = some (.collection .s 3) ∧ decodeSelectPeriod .p [] = none := by
  decide

/-! ## The manual's figures -/

/-- The P-link's and the S-link's enable sets at reset (R179). -/
theorem test_reset_enables : State.reset.pLink.enableSet = 0x700f#16 ∧ State.reset.sLink.enableSet = 0x0f10#16 := by
  decide

/-- φ = 1,820 (section 4.2): sin φ is 5,689 and cos φ is 32,269. -/
theorem test_sine_of_ten_degrees : sine 1820 = 5689 ∧ cosine 1820 = 32269 := by decide +kernel

/-- The ends of the quarter-wave table (R69). -/
theorem test_sine_ends : sineEntry 0 = 0 ∧ sineEntry 16384 = 32767 ∧ sine 49152 = -32767 := by decide +kernel

/-- The worked mapping of chapter 4, and its way back. -/
theorem test_mapping : Transform.apply 6016 4032 ⟨1820, -1250, 388⟩ (80016, 12816) = (81657, 19036) ∧
    Transform.inverse 6016 4032 ⟨1820, -1250, 388⟩ (81657, 19036) = (80016, 12816) := by
  decide +kernel

/-- The trimmed residual of section 11.4. -/
theorem test_trimmed_means : trimmedMean [-9, -5, 31, -4, -3, 2, -2, -1, 0] = -2 ∧
    trimmedMean [-3, 4, -1, 0, 0, 1, 3, 1, 2] = 1 := by
  decide

/-- The prediction of section 11.4. -/
theorem test_prediction : predictPose [⟨21, 1635000, 650, -447, 160, .steady⟩, ⟨20, 1604000, 610, -420, 150, .steady⟩]
    1666000 = ⟨690, -474, 170⟩ := by
  decide

/-- The rejection tests of section 11.4: sub 22 is dropped and sub 23 passes. -/
theorem test_rejection : channelFails 48 5 16 20 29000 42052880 1520 = true ∧
    channelFails 48 5 16 20 29000 42052880 1480 = false ∧ channelFails 48 5 16 4 0 0 16383 = false := by
  decide

/-- Sub 23 added to the cell of section 11.4. -/
theorem test_accept : ((⟨⟨29000, 0, 0, 0⟩, ⟨42052880, 0, 0, 0⟩, 20⟩ : CellRecord).accept ⟨1480, 0, 0, 0⟩) =
    ⟨⟨30480, 0, 0, 0⟩, ⟨44243280, 0, 0, 0⟩, 21⟩ := by
  decide

/-- The two dark means of section 11.5, and the raw value 1,900 against them. -/
theorem test_dark_means : darkMean 8 4190 = 524 ∧ calibrated 1900 524 = 2400 ∧ darkMean 5 2612 = 522 ∧
    calibrated 1900 522 = 2402 := by
  decide

/-- The three output values of section 11.8. -/
theorem test_finish_values :
    outputValue 1024 (composite ⟨.sky, 16⟩ (channelValues 64 92800 0 0)) = 2728 ∧
      outputValue 1024 (composite ⟨.blend, 12⟩ (channelValues 52 75400 65 100295)) = 2821 ∧
      outputValue 1024 (composite ⟨.blend, 12⟩ (channelValues 0 0 65 100295)) = 3100 := by
  decide

/-- The band table of R91. -/
theorem test_bands : bandOf (-400) = 0 ∧ bandOf 0 = 20 ∧ bandOf 97 = 26 ∧ bandOf 92 = 25 ∧ bandOf 2047 = 62 := by decide

/-- The lengths of the records of chapter 10. -/
theorem test_record_lengths : (planRecord Plan.default).length = 31 ∧
    (subOutcomeRecord 0 (lightIn .waiting 1)).length = 78 ∧ (driftPayload State.reset).length = 10 ∧
    (totalsPayload State.reset).length = 44 ∧ (stampRecord State.reset.results.stamp).length = 16 := by
  decide

/-- The frame centre, and the sub cell and tile of the worked mapping. -/
theorem test_mapped_cell : frameCentre 6016 4032 = (48128, 32256) ∧ (81657 / 32, 19036 / 32) = (2551, 594) ∧
    tileIndex 6016 (2551 / 32) (594 / 32) = 18 * 94 + 79 := by
  decide

/-- The Bayer phases give each channel its pixel (R51): in BGGR the red pixel is the quad's last. -/
theorem test_bayer : rawQuad .bggr [(0, 10), (1, 11), (6144, 12), (6145, 13)] 0 0 = ⟨13, 12, 11, 10⟩ ∧
    rawQuad .rggb [(0, 10), (1, 11), (6144, 12), (6145, 13)] 0 0 = ⟨10, 11, 12, 13⟩ := by
  decide

/-- Two lanes carry the even and the odd pixels (R53). -/
theorem test_lanes : assembleLine [[1, 3, 5], [2, 4]] 2 = [1, 2, 3, 4, 5] ∧
    assembleLine [[1, 5], [2], [3], [4]] 4 = [1, 2, 3, 4, 5] := by
  decide

/-- The arbiter (R108): the Sensor Port first, then the one of the two that was not granted last, and none at all with
the memory not ACTIVE. -/
theorem test_arbiter : arbiterGrant true true true true .engine = some .sensorPort ∧
    arbiterGrant true false true true .engine = some .link ∧
    arbiterGrant true false true true .link = some .engine ∧
    arbiterGrant true false false true .link = some .link ∧ arbiterGrant true false false false .link = none ∧
    arbiterGrant false true true true .link = none := by
  decide

/-- The trailer's temperature is a signed 12-bit number of eighths (R52). -/
theorem test_trailer_temperature : (0xfff#12 : BitVec 12).toInt = -1 ∧ (0x061#12 : BitVec 12).toInt = 97 := by decide

/-! ## One step each -/

theorem test_arm_accepted : ((after (exec (.arm (onP [7])) State.reset)).map fun t =>
    (t.session.state, t.engine.clearPending, outcomeOf .p t)) = some (.arming, true, some .accepted) := by decide

theorem test_arm_refused_on_sLink : ((after (exec (.arm (onS [7])) State.reset)).map fun t =>
    (t.session.state, outcomeOf .s t)) = some (.idle, some .refusedLink) := by decide

theorem test_start_busy_in_arming : ((after (exec (.start (onS [7])) (inSession .arming))).map fun t =>
    (t.session.state, outcomeOf .s t)) = some (.arming, some .busy) := by decide

theorem test_start_waits_for_a_start : ((after (exec (.start (onS [7])) (inSession .armed))).map fun t =>
    (t.session.state, t.seq.phase, t.seq.cadenceTimer)) = some (.referencing, .waitStart, some 0) := by decide

theorem test_pause_from_integrating : ((after (exec (.pause (onS [7])) integrating)).map fun t =>
    (t.session.state, t.session.pauseCause, t.seq.phase)) = some (.paused, some .request, .idle) := by decide

theorem test_resume_without_reference : ((after (exec (.resume (onP [7])) (inSession .paused))).map fun t =>
    (t.session.state, t.seq.phase)) = some (.referencing, .waitStart) := by decide

theorem test_finish_of_an_empty_ring : ((after (exec (.finish (onP [7])) integrating)).map fun t =>
    (t.session.state, t.engine.finishPending)) = some (.finishing, true) := by decide

theorem test_finish_waits_for_a_light :
    ((after (exec (.finish (onP [7])) (withDesc 2 (lightIn .waiting 5) integrating))).map fun t =>
      (t.session.state, t.engine.finishPending)) = some (.draining, false) := by decide

theorem test_extend_at_the_sub_limit :
    ((after (exec (.extend (onP [7])) (withPlan (fun p => { p with subLimit := 1 })
        { inSession .finished with session := { (inSession .finished).session with
          totals := { Totals.zero with subsOpened := 1 } } }))).map fun t =>
      (t.session.state, outcomeOf .p t)) = some (.finished, some .refusedState) := by decide

theorem test_close_empties_the_ring :
    ((after (exec (.closeSession (onP [7])) (withDesc 2 (lightIn .retired 5) integrating))).map fun t =>
      (t.session.state, t.ring.desc[2].state)) = some (.idle, .free) := by decide

/-- Fields of FFh are brought to the ends of their ranges, the coded ones to their defaults (R20). -/
theorem test_writePlan_clamps :
    ((after (exec (.writePlan (onP (7 :: 2 :: List.replicate 31 0xff#8))) State.reset)).map fun t =>
      (t.session.plans[2].subLength, t.session.plans[2].triggerMode, t.session.plans[2].rejectK, outcomeOf .p t)) =
      some (900000, .timed, 160, some .doneClamped) := by decide

theorem test_writePlan_too_short :
    ((after (exec (.writePlan (onP (7 :: 2 :: List.replicate 30 0xff#8))) State.reset)).map fun t =>
      (t.session.plans[2].subLength, outcomeOf .p t)) = some (30000, some .refusedRange) := by decide

theorem test_readPlan_active :
    ((after (exec (.readPlan (onS [7, 0])) State.reset)).bind fun t =>
      t.sLink.response.map fun r => (r.response.payload.take 4, r.response.payload.getLast?)) =
      some ([0x30, 0x75, 0, 0], some 1) := by decide

theorem test_selectPlan_staged : ((after (exec (.selectPlan (onS [7, 3])) integrating)).map fun t =>
    (t.session.activePlan, t.session.pendingPlan)) = some (0, some 3) := by decide

theorem test_selectPlan_no_such_slot : ((after (exec (.selectPlan (onS [7, 4])) integrating)).map fun t =>
    (t.session.pendingPlan, outcomeOf .s t)) = some (none, some .refusedRange) := by decide

theorem test_setPartSettings_clamps :
    ((after (exec (.setPartSettings (onP [7, 121, 0])) State.reset)).map fun t =>
      (t.session.holdReserve, t.session.remoteWake, outcomeOf .p t)) = some (120, false, some .doneClamped) := by decide

theorem test_readPartSettings : ((after (exec (.readPartSettings (onS [7])) State.reset)).bind fun t =>
    t.sLink.response.map fun r => r.response.bytes) = some [0xc3, 0x0c, 7, 0x00, 3, 0, 0, 30, 1] := by decide

theorem test_triggerSub_in_single :
    ((after (exec (.triggerSub (onS [7])) (withPlan (fun p => { p with triggerMode := .single }) integrating))).map
      fun t => (t.seq.phase, t.ring.desc[0].state, t.ring.desc[0].sub, t.lines.trigger)) =
      some (.exposing, .exposing, 1, true) := by decide

theorem test_triggerSub_in_timed : ((after (exec (.triggerSub (onS [7])) integrating)).map fun t =>
    (t.seq.phase, outcomeOf .s t)) = some (.waitStart, some .refusedState) := by decide

theorem test_configureSensor_rounds_down :
    ((after (exec (.configureSensor (onP [7, 0xff, 0x0b, 0x00, 0x04, 9, 3])) State.reset)).map fun t =>
      (t.port.width, t.port.height, t.port.bayer, t.port.lanes)) = some (3008, 1024, .rggb, 4) := by decide

theorem test_readSubOutcome_of_no_sub :
    ((after (exec (.readSubOutcome (onP [7, 1, 0])) State.reset)).map (outcomeOf .p)) = some (some .refusedRange) := by
  decide

theorem test_reportPose_stale :
    ((after (exec (.reportPose (onS [7, 9, 0, 0, 0, 0, 0, 0, 0, 0, 0, 0])) integrating)).map (outcomeOf .s)) =
      some (some .stale) := by decide

theorem test_reportPose_negative :
    ((after (exec (.reportPose (onS [7, 9, 0, 2, 0, 0xff, 0xff, 0xff, 1, 0, 0, 1]))
        (withDesc 4 (lightIn .reading 9) integrating))).map fun t => t.ring.desc[4].pose) =
      some (.reported 2 (-1) 1 .shaken) := by decide

theorem test_writeTiles_in_integrating :
    ((after (exec (.writeTiles (onP [7, 0, 0, 1, 0, 1, 16])) integrating)).map (outcomeOf .p)) =
      some (some .refusedState) := by decide

theorem test_writeTiles_clamps_a_weight :
    ((after (exec (.writeTiles (onP [7, 1, 0, 2, 0, 1, 0, 2, 17])) State.reset)).map fun t =>
      (t.tileMap, outcomeOf .p t)) = some ([(1, ⟨.ground, 0⟩), (2, ⟨.blend, 16⟩)], some .doneClamped) := by decide

theorem test_requestPreview_refused : ((after (exec (.requestPreview (onP [7])) State.reset)).map (outcomeOf .p)) =
    some (some .refusedState) := by decide

theorem test_setPower_standby_from_idle : ((after (exec (.setPower (onP [7, 1])) State.reset)).map fun t =>
    (t.power.state, t.power.changing)) = some (.standby, true) := by decide

theorem test_setStayAwake_on_pLink : ((after (exec (.setStayAwake (onP [7, 1])) State.reset)).map fun t =>
    (t.power.stayAwake, outcomeOf .p t)) = some (false, some .refusedLink) := by decide

theorem test_request_wakes_from_standby : ((after (exec (.readDrift (onS [7])) (powered .standby .idle))).map fun t =>
    (t.power.state, t.power.lastWake)) = some (.active, some .sLink) := by decide

theorem test_collection_with_nothing : ((after (exec (.collection .p 2) State.reset)).map fun t => t.pLink.sent) =
    some [0x5a, 0xff] := by decide

theorem test_unknownRequest_answer : ((after (exec (.unknownRequest 0x29#8 (onP [7])) State.reset)).bind fun t =>
    t.pLink.response.map fun r => r.response.bytes) = some [0xc3, 0x29, 7, 0x1f, 1, 0, 0] := by decide

theorem test_setEventOrder_repeats_a_group :
    ((after (exec (.setEventOrder (onP [7, 0, 0, 1, 2])) State.reset)).map fun t => (t.pLink.order, outcomeOf .p t)) =
      some ([.session, .power, .subs, .guidance], some .refusedRange) := by decide

theorem test_remote_restarts_its_debounce :
    ((after (exec (.remoteLineChange true) State.reset)).map fun t => t.seq.debounceTimer) = some (some 20) := by decide

theorem test_close_timeout_opens_a_light :
    ((after (exec .closeTimeout { integrating with
      seq := { integrating.seq with phase := .waitShutter, shutterTimer := some 0 } })).map fun t =>
      (t.seq.phase, t.ring.desc[0].kind, t.seq.lastFault)) = some (.exposing, .light, some (.closeTimeout, 0)) := by
  decide

theorem test_cadence_expiry_is_kept :
    ((after (exec .cadenceTimerExpiry (withDesc 0 (lightIn .reading 1) { integrating with
      seq := { integrating.seq with cadenceTimer := some 0 } }))).map fun t => (t.seq.keptExpiry, t.seq.phase)) =
      some (true, .waitStart) := by decide

theorem test_frame_start_discarded : ((after (exec .frameStart State.reset)).map fun t =>
    (t.port.reception, t.port.discarded)) = some (.discarding, 1) := by decide

theorem test_trailer_with_a_line_missing :
    ((after (exec (.trailerLine 1 97) (withDesc 0 (lightIn .reading 1) { integrating with
      port := { integrating.port with sync := .synced, reception := .receiving 1, lineCount := 4031 } }))).map fun t =>
      (t.ring.desc[0].outcome, t.port.lastResult)) = some (some (.rejected .geometry), some .failedShape) := by decide

theorem test_engine_takes_the_lowest_light :
    ((after (exec .engineTakesJob (withDesc 1 (lightIn .waiting 7) (withDesc 4 (lightIn .waiting 3) integrating)))).map
      fun t => (t.engine.job, t.ring.desc[4].calibration, t.ring.desc[4].state)) =
      some (.descriptor 4, none, .measuring) := by decide

theorem test_dark_takes_an_empty_slot :
    ((after (exec .engineTakesJob (withDesc 1 (darkIn .waiting 7) integrating))).map fun t =>
      (t.darks.mergeTarget, t.darks.slots[0].band, t.ring.desc[1].state)) = some (some 0, 26, .merging) := by decide

/-- A slot taken by replacement keeps its last-used sub number, and leaves the use order (R92, R93). -/
theorem test_replaced_slot_keeps_its_last_use :
    ((after (exec .engineTakesJob ((withDesc 1 (darkIn .waiting 47) integrating).onDarks fun _ =>
      { DarkLibrary.emptied with
        slots := #v[⟨.ready, 10, 8, 40⟩, ⟨.ready, 11, 8, 41⟩, ⟨.ready, 12, 8, 42⟩, ⟨.ready, 13, 8, 43⟩]
        useOrder := [2, 3, 0, 1] }))).map fun t => (t.darks.slots[2], t.darks.useOrder)) =
      some (⟨.building, 26, 0, 42⟩, [3, 0, 1]) := by decide

theorem test_hold_pauses :
    ((after (exec .holdEntry integrating)).map fun t =>
      (t.power.state, t.session.pauseCause, t.power.reserveTimer)) = some (.hold, some .hold, some 30000) := by decide

theorem test_pfWarn_with_nothing_to_keep : ((after (exec (.pfWarnLineChange true) State.reset)).map fun t =>
    (t.lines.pfWarn, t.power.state)) = some (true, .active) := by decide

theorem test_idle_counts_a_millisecond : ((after (step (withPlan (fun p => { p with autoDoze := false }) integrating))).map
    fun t => (t.seq.clock, t.session.runTime)) = some (1, 1) := by decide

theorem test_idle_dozes : ((after (step State.reset)).map fun t => t.power.state) = some .doze := by decide

/-! ## Witnesses: a state and operands that meet the hypotheses of each statement -/

/-- A part whose engine works on a job with every tile done. -/
def doneJob (j : Job) (w : Work) (s : State) : State :=
  { s with engine := { s.engine with job := j, work := w, tilesDone := s.tileCount } }

/-- A part whose engine has a job and no tile done. -/
def onJob (j : Job) (w : Work) (s : State) : State := { s with engine := { s.engine with job := j, work := w } }

/-- An exposure of a light or a dark from clock 0, in index 3. -/
def exposing (k : SubKind) (s : State) : State :=
  withDesc 3 { lightIn .exposing 4 with kind := k, exposure := 500 }
    { s with seq := { s.seq with
      clock := 500, phase := .exposing, current := some ⟨3, 4, k, 0, 500, false⟩ }, lines := { s.lines with trigger := true } }

/-- A part in HOLD for its session's sake. -/
def holding : State :=
  { powered .hold .paused with
    lines := { State.reset.lines with pfWarn := true }
    power := { State.reset.power with
      state := .hold, memory := .selfRefresh, engineOn := false, reserveTimer := some 0 } }

/-- A part in HOLD whose session the hold has paused. -/
def heldSession : State := holding.onSession fun x => { x with pauseCause := some .hold }

/-- A part on its way to ACTIVE, with a session in a state. -/
def waking (st : SessionState) : State := (powered .active st).onPower fun p => { p with changing := true }

/-- The sequencer is in a phase. -/
def inPhase (ph : Phase) (s : State) : State := { s with seq := { s.seq with phase := ph } }

/-- The exposure of a REMOTE_GATE light that began `ran` ms ago, with a release kept or not. -/
def gateLight (ran : Clock) (released : Bool) (s : State) : State :=
  let s := (exposing .light s).onDesc 3 fun d => { d with snapshot := { d.snapshot with triggerMode := .remoteGate } }
  s.onSeq fun q => { q with clock := ran, current := q.current.map fun c => { c with released := released } }

/-- The four slots READY, each with 8 darks of a band of its own, last used by subs 40 to 43; slot 2 is the least
recently used. -/
def fullLibrary : DarkLibrary :=
  { DarkLibrary.emptied with
    slots := #v[⟨.ready, 10, 8, 40⟩, ⟨.ready, 11, 8, 41⟩, ⟨.ready, 12, 8, 42⟩, ⟨.ready, 13, 8, 43⟩]
    useOrder := [2, 3, 0, 1] }

/-- The cover is closed. -/
def covered (s : State) : State := { s with lines := { s.lines with shutterClosed := true } }

/-- The part's plan switched from TIMED to a mode. -/
def inMode (m : TriggerMode) (s : State) : State := withPlan (fun p => { p with triggerMode := m }) s

/-- The line of REMOTE has been at a level for 20 ms. -/
def steadyRemote (low : Bool) (s : State) : State :=
  { s with
    lines := { s.lines with remoteLow := low }
    seq := { s.seq with remotePressed := !low, debounceTimer := some s.seq.clock } }

/-- A release before 500 ms is kept (R37). -/
theorem test_release_before_500_is_kept :
    ((after (exec .remoteRelease (steadyRemote false (gateLight 499 false integrating)))).map fun t =>
      (t.seq.phase, t.seq.current.map CurrentExposure.released)) = some (.exposing, some true) := by decide

/-- A light that was released before 500 ms ends at 500 ms though REMOTE is pressed again (R37). -/
theorem test_gate_light_ends_at_500_though_pressed_again :
    ((after (exec .exposureEnd ((gateLight 500 true integrating).onSeq fun q => { q with remotePressed := true }))).map
      fun t => (t.ring.desc[3].state, t.ring.desc[3].exposure, t.lines.trigger)) = some (.reading, 500, false) := by decide

/-- R122: the measurement of a light that its quality rejects has no tiles. -/
theorem test_close_ends_a_job_without_tiles :
    ((after (exec (.closeSession (onP [7])) (onJob (.descriptor 5) (.measuring true none) integrating))).map fun t =>
      (t.engine.job, t.engine.stop)) = some (.none, .none) := by decide

theorem witness_StepRunsTheFrontCommand : ∃ (c : Instr) (rest : List Instr) (s : State), s.pending = c :: rest :=
  ⟨.frameStart, [.holdEntry], { State.reset with pending := [.frameStart, .holdEntry] }, by decide⟩

theorem witness_IdleStepIsADueStepOrAMillisecond :
    (∃ (i : Instr) (s : State), s.pending = [] ∧ s.dueStep = some i) ∧
      (∃ s : State, s.pending = [] ∧ s.dueStep = none ∧ s.running = true ∧ s.session.runTime < 2 ^ 32 - 1) ∧
      (∃ s : State, s.pending = [] ∧ s.dueStep = none ∧ s.running = false) :=
  ⟨⟨.dozeEntry, State.reset, by decide⟩,
    ⟨withPlan (fun p => { p with autoDoze := false })
      { integrating with session := { integrating.session with runTime := 4294967294 } }, by decide⟩,
    ⟨powered .doze .idle, by decide⟩⟩

theorem witness_LinkCommandsRoundTrip :
    Instr.WellFormed (.unknownRequest 0x29#8 (onS [7])) = true ∧
      encodeSelectPeriod (.unknownRequest 0x29#8 (onS [7])) = some (.s, [0x29, 7]) ∧ (0x01#8 ≠ collectCode) := by
  decide

/-- A step from a session that runs, with every law of `Safety` met before it. -/
theorem witness_EveryStepKeepsMemoryCanonical :
    (withDesc 0 (lightIn .waiting 1) { integrating with pending := [.engineTakesJob] }).memoryWf = true ∧
      (after (step (withDesc 0 (lightIn .waiting 1) { integrating with pending := [.engineTakesJob] }))).isSome = true := by
  decide

theorem witness_EveryStepKeepsAttentionRight :
    EventsRight (raise .finishDone integrating) ∧ (after (step (raise .finishDone integrating))).isSome = true := by
  have none : ∀ n : Nat, ¬((raise .finishDone integrating).sLink.pendingSet.getLsbD n = true ∧
      (raise .finishDone integrating).sLink.enableSet.getLsbD n = true) := by
    intro n h
    have : (0 : BitVec 16).getLsbD n = true := by
      rw [← Bool.and_eq_true, ← BitVec.getLsbD_and] at h
      exact h
    simp at this
  refine ⟨⟨⟨by decide, by decide, by decide, by decide, fun _ => ⟨2, by decide⟩, fun _ => by decide⟩,
    ⟨by decide, by decide, by decide, by decide, fun h => absurd h (by decide), fun ⟨n, h⟩ => absurd h (none n)⟩⟩,
    by decide⟩

theorem witness_EveryStepKeepsTheSessionRight :
    SessionRight integrating ∧ (after (step integrating)).isSome = true := by
  unfold SessionRight
  decide

theorem witness_EveryStepKeepsThePowerStateRight : PowerRight holding ∧ (after (step holding)).isSome = true := by
  unfold PowerRight
  decide

theorem witness_EveryStepKeepsSettingsInRange :
    SettingsRight { integrating with tileMap := [(3, ⟨.blend, 16⟩)] } ∧
      (after (step { integrating with tileMap := [(3, ⟨.blend, 16⟩)] })).isSome = true := by
  unfold SettingsRight PlanInRange
  decide

theorem witness_EveryStepKeepsThePlanesRight :
    PlanesRight { integrating with dram := { Dram.cleared with sky := [(3, ⟨⟨2, 0, 0, 0⟩, ⟨2, 0, 0, 0⟩, 2⟩)] } } ∧
      (after (step { integrating with
        dram := { Dram.cleared with sky := [(3, ⟨⟨2, 0, 0, 0⟩, ⟨2, 0, 0, 0⟩, 2⟩)] } })).isSome = true := by
  unfold PlanesRight RecordRight ChannelRight
  decide

theorem witness_EveryStepKeepsTheDarkLibraryRight :
    DarkLibraryRight { integrating with darks :=
      { DarkLibrary.emptied with slots := DarkLibrary.emptied.slots.set 2 ⟨.ready, 27, 8, 4⟩, useOrder := [2] } } ∧
      (after (step { integrating with darks := { DarkLibrary.emptied with
        slots := DarkLibrary.emptied.slots.set 2 ⟨.ready, 27, 8, 4⟩, useOrder := [2] } })).isSome = true := by
  unfold DarkLibraryRight
  decide

theorem witness_LeadEventFollowsTheGroupOrder :
    LinkState.lead (raise .finishDone State.reset).pLink = some 2 ∧
      (raise .finishDone State.reset).pLink.attention = true ∧
      (raise .finishDone State.reset).sLink.attention = false := by
  decide

theorem witness_EventRequestsServeTheirOwnLink :
    QuietTaking (onS [7, 0, 1]) State.reset ∧ 4 ≤ byteCount (onS [7, 0, 1]) ∧ 6 ≤ byteCount (onS [7, 3, 2, 1, 0]) ∧
      (∀ k : Fin 4, groupNamed (fieldU8 (onS [7, 3, 2, 1, 0]) (2 + k.val)) =
        some (![EventGroup.power, .guidance, .subs, .session] k)) ∧
      (∀ k : Fin 4, groupNamed (fieldU8 (onS [7, 3, 3, 1, 0]) (2 + k.val)) =
        some (![EventGroup.power, .power, .subs, .session] k)) ∧
      4 ≤ fieldU8 (onP [7, 3, 2, 4, 0]) 4 := by
  unfold QuietTaking
  decide

theorem witness_ReadsChangeNothingButTheResponse :
    QuietTaking (onP [7]) (powered .hold .lost) ∧ 2 ≤ byteCount (onP [7]) ∧
      (integrating.onGuidance fun g => { g with history := [⟨21, 1635000, 650, -447, 160, .steady⟩] }).guidance.history[0]? =
        some ⟨21, 1635000, 650, -447, 160, .steady⟩ := by
  unfold QuietTaking
  decide

/-- The drift record, the totals and the group orders of the reads with a layout table. -/
theorem witness_TheReadsWithALayoutTable :
    State.reset.guidance.drift = none ∧
      (integrating.onGuidance fun g => { g with drift := some ⟨22, some (-2, 1), 9, .predicted, .applied⟩ }).guidance.drift =
        some ⟨22, some (-2, 1), 9, .predicted, .applied⟩ ∧
      State.reset.session.totals.subsOpened < 65536 ∧ State.reset.session.totals.groundMs < 2 ^ 48 ∧
      State.reset.pLink.order = [.session, .power, .subs, .guidance] ∧
      State.reset.sLink.order = [.guidance, .subs, .power, .session] := by
  decide

theorem witness_TableReadsAnswerForWhatTheyName :
    QuietTaking (onP [7, 3]) State.reset ∧ 2 ≤ byteCount (onP [7]) ∧ 3 ≤ byteCount (onP [7, 3]) ∧
      fieldU8 (onP [7, 3]) 2 = 3 ∧
      fieldU8 (onP [7, 4]) 2 = 4 ∧ 4 ≤ byteCount (onP [7, 9, 0]) ∧ fieldU16 (onP [7, 9, 0]) 2 = 9 ∧
      (∀ j : Fin 6, (withDesc 5 (lightIn .retired 9) State.reset).ring.desc[j].state ≠ .free →
        (withDesc 5 (lightIn .retired 9) State.reset).ring.desc[j].sub = 9 → j = 5) ∧
      (∀ j : Fin 6, State.reset.ring.desc[j].state = .free ∨ State.reset.ring.desc[j].sub ≠ 9) ∧
      6 ≤ byteCount (onP [7, 0x22, 0x17, 0, 0]) ∧ State.reset.tileCount ≤ fieldU16 (onP [7, 0x22, 0x17, 0, 0]) 2 ∧
      fieldU16 (onP [7, 0x21, 0x17, 0, 0]) 2 < State.reset.tileCount ∧
      fullLibrary.slots[3].state ≠ .empty ∧ fullLibrary.slots[3].lastUsed ≠ 0 ∧
      (integrating.onGuidance fun g =>
        { g with stars := g.stars.set 23 ⟨.locked, 90, 80, 70, none, none, 0, 2⟩ }).guidance.stars[23].state ≠ .vacant ∧
      State.reset.session.activePlan = 0 ∧ State.reset.session.pendingPlan ≠ some 3 ∧
      (State.reset.onSession fun x => { x with pendingPlan := some 3 }).session.pendingPlan = some 3 := by
  unfold QuietTaking
  decide

theorem witness_ArmOpensASession :
    (onP [7]).link = .p ∧ 2 ≤ byteCount (onP [7]) ∧ (powered .doze .idle).power.state ≠ .standby ∧
      (powered .doze .idle).power.state ≠ .hold ∧ (powered .doze .idle).session.state = .idle := by
  decide

theorem witness_StartBeginsReferencing :
    QuietTaking (onS [7]) (inSession .armed) ∧ 2 ≤ byteCount (onS [7]) ∧ (inSession .armed).power.state ≠ .hold ∧
      (inSession .armed).session.state = .armed ∧ (inSession .arming).session.state = .arming ∧
      QuietTaking (onS [7]) (inSession .arming) ∧ (covered State.reset).lines.shutterClosed = true ∧
      (covered State.reset).seq.phase ≠ .waitOpen := by
  unfold QuietTaking
  decide

theorem witness_PauseStopsARunningSession :
    2 ≤ byteCount (onP [7]) ∧
      (∀ s ∈ [integrating, inPhase .waitShutter integrating, inPhase .waitOpen (covered integrating),
          exposing .light integrating, exposing .dark (covered integrating), exposing .dark integrating],
        QuietTaking (onP [7]) s ∧ s.running = true) ∧
      integrating.seq.phase = .waitStart ∧ (inPhase .waitShutter integrating).lines.shutterClosed = false ∧
      (exposing .light integrating).seq.phase = .exposing ∧
      (exposing .light integrating).seq.current = some ⟨3, 4, .light, 0, 500, false⟩ ∧
      (exposing .dark (covered integrating)).seq.current = some ⟨3, 4, .dark, 0, 500, false⟩ ∧
      (exposing .dark (covered integrating)).lines.shutterClosed = true ∧
      (exposing .dark integrating).seq.current = some ⟨3, 4, .dark, 0, 500, false⟩ ∧
      (exposing .dark integrating).lines.shutterClosed = false := by
  unfold QuietTaking
  decide

theorem witness_ResumeReturnsToARunningState :
    (∃ s : State, QuietTaking (onS [7]) s ∧ 2 ≤ byteCount (onS [7]) ∧ s.power.state ≠ .hold ∧
      s.session.state = .paused ∧ s.plan.autoFinish = true ∧ ¬s.plan.subLimit ≤ s.session.totals.subsOpened ∧
      ¬(s.plan.durationLimit ≠ 0 ∧ 60000 * s.plan.durationLimit ≤ s.session.runTime)) ∧
    (∃ s : State, QuietTaking (onS [7]) s ∧ s.power.state ≠ .hold ∧ s.session.state = .paused ∧
      s.plan.autoFinish = true ∧ s.plan.durationLimit ≠ 0 ∧ 60000 * s.plan.durationLimit ≤ s.session.runTime) := by
  unfold QuietTaking
  exact ⟨⟨inSession .paused, by decide⟩, ⟨withPlan (fun p => { p with durationLimit := 1 })
    ((inSession .paused).onSession fun x => { x with runTime := 60000 }), by decide⟩⟩

theorem witness_FinishDrainsTheSession :
    (∀ s ∈ [integrating, inPhase .waitShutter integrating, exposing .light integrating,
        inPhase .waitOpen (covered integrating), inSession .paused, powered .hold .paused],
      s.power.state ≠ .standby ∧ (s.running = true ∨ s.session.state = .paused)) ∧
      integrating.seq.phase = .waitStart ∧ (∀ i : Fin 6, integrating.ring.desc[i].inFlight = false) ∧
      (inPhase .waitShutter integrating).lines.shutterClosed = false ∧
      (exposing .light integrating).seq.phase = .exposing ∧
      (exposing .light integrating).ring.desc[3].inFlight = true ∧ (inSession .paused).seq.phase = .idle ∧
      (∀ i : Fin 6, (inSession .paused).ring.desc[i].inFlight = false) ∧
      (withDesc 5 (lightIn .merging 9) (inSession .paused)).ring.desc[5].inFlight = true := by
  decide

theorem witness_ExtendReopensAFinishedSession :
    (∃ s : State, s.power.state ≠ .standby ∧ s.power.state ≠ .hold ∧ s.session.state = .finished ∧
      s.session.totals.subsOpened < s.plan.subLimit) ∧
    (∃ s : State, s.power.state ≠ .standby ∧ s.power.state ≠ .hold ∧ s.session.state = .finished ∧
      s.plan.subLimit ≤ s.session.totals.subsOpened) :=
  ⟨⟨inSession .finished, by decide⟩, ⟨withPlan (fun p => { p with subLimit := 1 })
    ((inSession .finished).onSession fun x => { x with totals := { Totals.zero with subsOpened := 1 } }), by decide⟩⟩

theorem witness_CloseSessionGivesUpTheSession :
    (∃ s : State, 2 ≤ byteCount (onP [7]) ∧ s.power.state ≠ .standby ∧ s.session.state = .idle) ∧
    (∃ s : State, s.power.state ≠ .standby ∧ s.session.state ≠ .idle ∧ s.power.waiting = false) ∧
    (∃ s : State, s.power.state = .standby ∧ s.session.state ≠ .idle) ∧
    (∃ s : State, s.session.state ≠ .idle ∧ s.engine.job = .descriptor 5 ∧ s.engine.work = .measuring true none) ∧
    (∃ s : State, s.power.state = .doze ∧ s.session.state ≠ .idle ∧ s.power.waiting = true) ∧
    (∃ s : State, s.engine.job ≠ .none ∧ s.engine.stop = .close ∧ s.engine.tilesDone < s.tileCount ∧
      s.darks.mergeTarget = none) ∧
    (∃ s : State, s.engine.job ≠ .none ∧ s.engine.stop = .close ∧ s.engine.tilesDone < s.tileCount ∧
      s.darks.mergeTarget = some 3) :=
  ⟨⟨State.reset, by decide⟩, ⟨powered .hold .lost, by decide⟩, ⟨powered .standby .lost, by decide⟩,
    ⟨onJob (.descriptor 5) (.measuring true none) integrating, by decide⟩,
    ⟨(powered .doze .paused).onPower fun p => { p with waiting := true }, by decide⟩,
    ⟨(onJob .finish .none State.reset).onEngine fun e => { e with stop := .close }, by decide⟩,
    ⟨((onJob (.descriptor 5) .darkMerging State.reset).onEngine fun e => { e with stop := .close }).onDarks
      fun d => { d with mergeTarget := some 3 }, by decide⟩⟩

theorem witness_PlanRequestsWriteAndSelect :
    fieldU8 (onP (7 :: 3 :: planRecord Plan.default)) 2 = 3 ∧ PlanInRange Plan.default ∧
      (onP (7 :: 3 :: planRecord Plan.default)).bytes.drop 2 = planRecord Plan.default ∧
      State.reset.planLocked = false ∧ 34 ≤ byteCount (onP (7 :: 3 :: planRecord Plan.default)) ∧
      integrating.planLocked = true ∧ fieldU8 (onP [7, 0]) 2 = 0 ∧ integrating.session.activePlan = 0 ∧
      3 ≤ byteCount (onP [7, 3]) ∧ State.reset.session.activePlan ≠ 3 ∧
      fieldU8 (onP (7 :: 2 :: List.replicate 31 0xff#8)) 2 = 2 ∧
      34 ≤ byteCount (onP (7 :: 2 :: List.replicate 31 0xff#8)) ∧
      integrating.session.activePlan ≠ 2 ∧ integrating.session.pendingPlan ≠ some 2 ∧
      QuietTaking (onS (7 :: 4 :: List.replicate 31 0#8)) State.reset ∧
      34 ≤ byteCount (onS (7 :: 4 :: List.replicate 31 0#8)) ∧
      QuietTaking (onP (7 :: 4 :: List.replicate 31 0#8)) State.reset ∧
      4 ≤ fieldU8 (onP (7 :: 4 :: List.replicate 31 0#8)) 2 ∧ fieldU8 (onS [7, 3]) 2 = 3 ∧
      fieldU8 (onS [7, 0]) 2 = 0 ∧ State.reset.session.activePlan = 0 := by
  unfold PlanInRange QuietTaking
  decide

theorem witness_IdleRequestsWriteTheSettings :
    4 ≤ byteCount (onP [7, 121, 0]) ∧ boolNamed (fieldU8 (onP [7, 121, 0]) 3) = some false ∧
      State.reset.session.state = .idle ∧ 8 ≤ byteCount (onP [7, 0, 0x18, 0, 0x10, 3, 2]) ∧
      fieldU16 (onP [7, 0, 0x18, 0, 0x10, 3, 2]) 2 = 6144 ∧ fieldU16 (onP [7, 0, 0x18, 0, 0x10, 3, 2]) 4 = 4096 ∧
      bayerNamed (fieldU8 (onP [7, 0, 0x18, 0, 0x10, 3, 2]) 6) = some .bggr ∧
      fieldU8 (onP [7, 0, 0x18, 0, 0x10, 3, 2]) 7 = 2 ∧
      fieldU8 (onP [7, 4, 2]) 2 = 4 ∧ boolNamed (fieldU8 (onP [7, 4, 2]) 3) = none ∧
      fieldU16 (onP [7, 0xff, 0x03, 1, 0x10, 4, 3]) 2 = 1023 ∧ fieldU16 (onP [7, 0xff, 0x03, 1, 0x10, 4, 3]) 4 = 4097 ∧
      bayerNamed (fieldU8 (onP [7, 0xff, 0x03, 1, 0x10, 4, 3]) 6) = none ∧
      fieldU8 (onP [7, 0xff, 0x03, 1, 0x10, 4, 3]) 7 = 3 := by
  decide

theorem witness_PoseReportsAndStarDropsTakeEffect :
    (∃ s : State, QuietTaking (onP [7, 9, 0, 2, 0, 0, 0, 0, 1, 0, 0, 2]) s ∧ s.session.referenceSet = true ∧
      13 ≤ byteCount (onP [7, 9, 0, 2, 0, 0, 0, 0, 1, 0, 0, 2])) ∧
    (∃ s : State, QuietTaking (onS [7, 9, 0, 2, 0, 0, 0, 0, 1, 0, 0, 3]) s ∧
      3 ≤ fieldU8 (onS [7, 9, 0, 2, 0, 0, 0, 0, 1, 0, 0, 3]) 12) ∧
    (∃ s : State, QuietTaking (onS [7, 9, 0, 2, 0, 0, 0, 0, 1, 0, 0, 2]) s ∧ s.session.referenceSet = false ∧
      fieldU8 (onS [7, 9, 0, 2, 0, 0, 0, 0, 1, 0, 0, 2]) 12 < 3) ∧
    (∀ s ∈ [withDesc 4 (lightIn .exposing 9) integrating, withDesc 4 (lightIn .measuring 9) integrating,
        withDesc 4 (lightIn .retired 9) integrating, withDesc 4 (darkIn .exposing 9) integrating],
      QuietTaking (onS [7, 9, 0, 2, 0, 0, 0, 0, 1, 0, 0, 2]) s ∧ s.session.referenceSet = true ∧
        [Quality.steady, .shaken, .moved][fieldU8 (onS [7, 9, 0, 2, 0, 0, 0, 0, 1, 0, 0, 2]) 12]? = some .moved ∧
        fieldU16 (onS [7, 9, 0, 2, 0, 0, 0, 0, 1, 0, 0, 2]) 2 = 9 ∧
        ∀ j : Fin 6, s.ring.desc[j].state ≠ .free → s.ring.desc[j].sub = 9 → j = 4) ∧
    (∀ j : Fin 6, integrating.ring.desc[j].state = .free ∨ integrating.ring.desc[j].sub ≠ 9) ∧
    (∃ s : State, QuietTaking (onP [7, 23]) s ∧ 3 ≤ byteCount (onP [7, 23]) ∧ fieldU8 (onP [7, 23]) 2 = 23 ∧
      24 ≤ fieldU8 (onP [7, 24]) 2 ∧ s.ring.desc[0].state = .measuring) ∧
    (∃ s : State, (∀ j : Fin 6, s.ring.desc[j].state ≠ .measuring) ∧ s.guidance.stars[23].state = .vacant) ∧
    (∃ s : State, QuietTaking (onP [7, 23]) s ∧ (∀ j : Fin 6, s.ring.desc[j].state ≠ .measuring) ∧
      s.guidance.stars[23].state ≠ .vacant) := by
  unfold QuietTaking
  exact ⟨⟨integrating, by decide⟩, ⟨integrating, by decide⟩, ⟨State.reset, by decide⟩, by decide, by decide,
    ⟨withDesc 0 (lightIn .measuring 1) integrating, by decide⟩, ⟨integrating, by decide⟩,
    ⟨integrating.onGuidance fun g => { g with stars := g.stars.set 23 { Star.vacated with state := .locked } },
      by decide⟩⟩

theorem witness_ClearDarkSlotEmptiesTheSlot :
    (3 ≤ byteCount (onP [7, 4]) ∧ 4 ≤ fieldU8 (onP [7, 4]) 2 ∧ fieldU8 (onP [7, 3]) 2 = 3) ∧
    (∃ s : State, s.power.state ≠ .standby ∧ s.darks.inUse = some 3) ∧
    (∃ s : State, s.power.state ≠ .standby ∧ s.darks.mergeTarget ≠ some 3 ∧ s.darks.inUse ≠ some 3) :=
  ⟨by decide, ⟨State.reset.onDarks fun d => { d with inUse := some 3 }, by decide⟩, ⟨State.reset, by decide⟩⟩

theorem witness_WriteTilesWritesARunOfEntries :
    (inSession .armed).session.state = .armed ∧ (inSession .armed).memoryWf = true ∧
      fieldU16 (onP [7, 0x21, 0x17, 2, 0, 1, 3, 1, 3]) 2 < (inSession .armed).tileCount ∧
      1 ≤ fieldU16 (onP [7, 0x21, 0x17, 2, 0, 1, 3, 1, 3]) 4 ∧
      6 + 2 * fieldU16 (onP [7, 0x21, 0x17, 2, 0, 1, 3, 1, 3]) 4 ≤ byteCount (onP [7, 0x21, 0x17, 2, 0, 1, 3, 1, 3]) := by
  decide

/-- A first tile past the last one with an entry and with none, and an empty list at the last tile. -/
theorem witness_WriteTilesOutOfRange :
    (∀ p ∈ [onP [7, 0x22, 0x17, 1, 0, 1, 3], onP [7, 0x22, 0x17, 0, 0], onP [7, 0x21, 0x17, 0, 0]],
      p.link = .p ∧ 6 + 2 * fieldU16 p 4 ≤ byteCount p) ∧
      State.reset.tileCount = fieldU16 (onP [7, 0x22, 0x17, 1, 0, 1, 3]) 2 ∧
      fieldU16 (onP [7, 0x22, 0x17, 1, 0, 1, 3]) 4 = 1 ∧ fieldU16 (onP [7, 0x22, 0x17, 0, 0]) 4 = 0 ∧
      fieldU16 (onP [7, 0x21, 0x17, 0, 0]) 2 < State.reset.tileCount := by
  decide

theorem witness_ReadBlockCarriesTheOutputStream :
    10 ≤ byteCount (onP [7, 0xff, 0x3f, 0xe4, 0x02, 0x01, 0x80, 0, 0]) ∧ (inSession .finished).session.state = .finished ∧
      fieldU32 (onP [7, 0xff, 0x3f, 0xe4, 0x02, 0x01, 0x80, 0, 0]) 2 =
        2 * (inSession .finished).port.width * (inSession .finished).port.height - 1 ∧
      2 * (inSession .finished).port.width * (inSession .finished).port.height ≤
        fieldU32 (onP [7, 0x00, 0x40, 0xe4, 0x02, 0x01, 0x80, 0, 0]) 2 ∧
      (inSession .finished).powered = true ∧ (powered .doze .finished).power.state = .doze ∧
      (waking .finished).power.state = .active ∧ (waking .finished).power.changing = true ∧
      integrating.session.state ≠ .finished ∧ integrating.power.state ≠ .standby := by
  decide

theorem witness_ReadPreviewCarriesItsStampAndStream :
    (∃ s : State, s.power.state ≠ .standby ∧ s.results.preview = .empty) ∧
    (∃ (p : SelectPeriod) (s : State), p.link = .p ∧ 10 ≤ byteCount p ∧ s.power.state ≠ .standby ∧
      s.results.preview = .valid ∧ s.powered = true ∧ ¬fieldU32 p 6 ≤ 32768 ∧
      fieldU32 p 2 < 2 * (s.port.width / 8) * (s.port.height / 8)) ∧
    (∃ (p : SelectPeriod) (s : State), p.link = .p ∧ 10 ≤ byteCount p ∧ s.results.preview = .valid ∧
      s.power.state ≠ .standby ∧ s.power.state ≠ .hold ∧
      2 * (s.port.width / 8) * (s.port.height / 8) = fieldU32 p 2) ∧
    (∃ s : State, s.results.preview = .valid ∧ s.power.state = .active ∧ s.power.changing = true) ∧
    (∃ s : State, s.results.preview = .valid ∧ s.power.state = .doze) ∧
    (∃ x : PreviewStamp, x.note.lightsMerged < 65536 ∧ x.note.lightsGroundOnly < 65536 ∧ x.note.skyMs < 2 ^ 48) ∧
    (∃ s : State, s.pLink.response = some ⟨⟨0x1f, 7, .done, [], []⟩, some ⟨.preview, 0, 2⟩⟩ ∧ s.powered = true) :=
  ⟨⟨State.reset, by decide⟩,
    ⟨onP [7, 0, 0, 0, 0, 0x01, 0x80, 0, 0], integrating.onResults fun r => { r with preview := .valid }, by decide⟩,
    ⟨onP [7, 0x00, 0x91, 0x0b, 0, 0, 0x80, 0, 0], integrating.onResults fun r => { r with preview := .valid }, by decide⟩,
    ⟨(waking .finished).onResults fun r => { r with preview := .valid }, by decide⟩,
    ⟨(powered .doze .finished).onResults fun r => { r with preview := .valid }, by decide⟩,
    ⟨⟨⟨20, 1, 600000, 1024⟩, 1700000⟩, by decide⟩,
    ⟨integrating.onPLink fun l =>
      { l with response := some ⟨⟨0x1f, 7, .done, [], []⟩, some ⟨.preview, 0, 2⟩⟩ }, by decide⟩⟩

theorem witness_RequestPreviewSetsItsMark :
    (∃ s : State, s.power.state ≠ .standby ∧
      s.session.state ∈ [SessionState.idle, .arming, .armed, .finishing, .lost]) ∧
    (∃ s : State, s.power.state ≠ .standby ∧ s.power.state ≠ .hold ∧
      s.session.state ∈ [SessionState.referencing, .integrating, .paused, .draining, .finished] ∧
      s.engine.job = .preview) ∧
    (∃ s : State, s.power.state ≠ .standby ∧ s.power.state ≠ .hold ∧
      s.session.state ∈ [SessionState.referencing, .integrating, .paused, .draining, .finished] ∧
      s.engine.previewPending = false ∧ s.engine.job ≠ .preview) :=
  ⟨⟨inSession .lost, by decide⟩, ⟨onJob .preview .none (inSession .draining), by decide⟩,
    ⟨powered .doze .finished, by decide⟩⟩

theorem witness_PowerRequestsFollowTheirTables :
    (3 ≤ byteCount (onP [7, 2]) ∧ 2 ≤ fieldU8 (onP [7, 2]) 2 ∧ fieldU8 (onP [7, 1]) 2 = 1 ∧ fieldU8 (onP [7, 0]) 2 = 0) ∧
    (∃ s : State, s.power.state = .hold) ∧
    (∃ s : State, s.power.state ≠ .standby ∧ s.power.state ≠ .hold ∧ s.power.changing = true) ∧
    (∃ s : State, s.power.state ≠ .standby ∧ s.power.state ≠ .hold ∧ s.power.changing = false ∧
      s.power.stayAwake = true) ∧
    (∃ s : State, s.power.state = .active ∧ s.power.changing = false ∧ s.power.stayAwake = false ∧
      s.session.state = .idle) ∧
    (∃ s : State, s.power.state = .doze ∧ s.power.changing = false ∧ s.power.stayAwake = false ∧
      s.session.state = .lost) ∧
    (∃ s : State, s.power.state ≠ .standby ∧ s.power.state ≠ .hold ∧ s.power.changing = false ∧
      s.power.stayAwake = false ∧ s.session.state ≠ .idle ∧ s.session.state ≠ .lost) ∧
    (∃ s : State, QuietTaking (onS [7, 1]) s ∧ QuietTaking (onP [7, 1]) s ∧ fieldU8 (onS [7, 1]) 2 = 1 ∧
      2 ≤ fieldU8 (onS [7, 2]) 2 ∧ 3 ≤ byteCount (onS [7, 2])) ∧
    (powered .standby .idle).power.state = .standby := by
  unfold QuietTaking
  exact ⟨by decide, ⟨holding, by decide⟩, ⟨State.reset.onPower fun p => { p with changing := true }, by decide⟩,
    ⟨State.reset.onPower fun p => { p with stayAwake := true }, by decide⟩, ⟨State.reset, by decide⟩,
    ⟨powered .doze .lost, by decide⟩, ⟨integrating, by decide⟩, ⟨powered .doze .idle, by decide⟩, by decide⟩

theorem witness_TakingARequestWakesAndGivesUp :
    (∃ s : State, Instr.WellFormed (.setPower (onP [7, 0])) = true ∧
      encodeSelectPeriod (.setPower (onP [7, 0])) = some (.p, [0x21, 7, 0]) ∧ isSetStandby (onP [7, 0]) = false ∧
      s.power.state = .standby) ∧
    (∃ s : State, 3 ≤ byteCount (onP [7, 1]) ∧ fieldU8 (onP [7, 1]) 2 = 1 ∧ s.power.state = .standby) ∧
    (∃ s : State, encodeSelectPeriod (.readDrift (onS [7])) = some (.s, [0x15, 7]) ∧ 0x15#8 ≠ collectCode ∧
      s.power.waiting = true ∧ s.power.state ≠ .standby) :=
  ⟨⟨powered .standby .idle, by decide⟩, ⟨powered .standby .idle, by decide⟩,
    ⟨integrating.onPower fun p => { p with waiting := true }, by decide⟩⟩

theorem witness_RefusedRequestsChangeNothing :
    encodeSelectPeriod (.pause (onP [7])) = some (.p, [0x03, 7]) ∧ QuietTaking (onP [7]) (inSession .paused) ∧
      ((after (exec (.pause (onP [7])) (inSession .paused))).map fun t => t.pLink.response) =
        some (some ⟨⟨0x03, 7, .refusedState, [], []⟩, none⟩) ∧
      (∃ p : SelectPeriod, p.link = .s ∧ QuietTaking p State.reset ∧ 34 ≤ byteCount p ∧
        6 + 2 * fieldU16 p 4 ≤ byteCount p) ∧
      (∃ p : SelectPeriod, p.link = .p ∧ QuietTaking p (inSession .lost) ∧ 8 ≤ byteCount p ∧
        6 + 2 * fieldU16 p 4 ≤ byteCount p ∧ (inSession .lost).power.state ≠ .hold) ∧
      QuietTaking (onP [7]) State.reset ∧ State.reset.session.state = .idle := by
  unfold QuietTaking
  exact ⟨by decide, by decide, by decide, ⟨onS (List.replicate 33 0), by decide⟩,
    ⟨onP (List.replicate 33 0), by decide⟩, by decide, by decide⟩

theorem witness_HoldAnswersHeld :
    (onP [7, 0, 0, 0, 0, 0, 0, 0, 0]).link = .p ∧ 10 ≤ byteCount (onP [7, 0, 0, 0, 0, 0, 0, 0, 0]) ∧
      (powered .hold .finished).power.state = .hold ∧ (powered .hold .finished).session.state = .finished ∧
      (powered .hold .paused).session.state = .paused ∧ (powered .hold .draining).session.state = .draining ∧
      ((powered .hold .finished).onResults fun r => { r with preview := .valid }).results.preview = .valid ∧
      (onS [7]).link = .s ∧ 2 ≤ byteCount (onS [7]) ∧ heldSession.power.waiting = false ∧
      (heldSession.onPower fun p => { p with waiting := true }).power.waiting = true := by
  decide

theorem witness_UnknownRequestsAndCollectionsAreServed :
    QuietTaking (onP []) State.reset ∧ isRequestCode 0x29#8 = false ∧ 0x29#8 ≠ collectCode ∧
      isRequestCode 0x00#8 = false ∧ (State.reset.link .s).response = none ∧
      (Response.bytes ⟨0x03, 7, .done, [], []⟩).length = 7 := by
  unfold QuietTaking
  decide

theorem witness_RemoteIsDebouncedAndActsByMode :
    (∃ s : State, s.lines.remoteLow ≠ true ∧ s.power.state ≠ .hold) ∧
    (∀ s ∈ [steadyRemote true integrating, steadyRemote true (inSession .paused), steadyRemote true State.reset,
        inMode .single (steadyRemote true integrating), inMode .remoteEdge (steadyRemote true State.reset)],
      s.power.state = .active ∧ s.power.waiting = false ∧ s.lines.remoteLow = true ∧ s.seq.remotePressed = false ∧
        s.seq.debounceTimer = some s.seq.clock) ∧
    ((steadyRemote true integrating).plan.triggerMode = .timed ∧ (steadyRemote true integrating).running = true ∧
      (steadyRemote true State.reset).running = false ∧
      (inMode .single (steadyRemote true integrating)).canStart = true ∧
      (inMode .remoteEdge (steadyRemote true State.reset)).canStart = false) ∧
    (∃ s : State, s.power.state ≠ .hold ∧ s.lines.remoteLow = false ∧ s.seq.remotePressed = true ∧
      s.seq.debounceTimer = some s.seq.clock ∧ s.seq.phase ≠ .exposing) ∧
    (∀ s ∈ [steadyRemote false (gateLight 499 false integrating), steadyRemote false (gateLight 500 false integrating)],
      s.power.state ≠ .hold ∧ s.lines.remoteLow = false ∧ s.seq.remotePressed = true ∧
        s.seq.debounceTimer = some s.seq.clock ∧ s.seq.phase = .exposing ∧
        s.seq.current = some ⟨3, 4, .light, 0, 500, false⟩ ∧
        s.ring.desc[3].snapshot.triggerMode = .remoteGate) ∧
    ((499#32 - 0#32).toNat < 500 ∧ 500 ≤ (500#32 - 0#32).toNat) ∧
    (steadyRemote false (exposing .light integrating)).ring.desc[3].snapshot.triggerMode ≠ .remoteGate :=
  ⟨⟨State.reset, by decide⟩, by decide, by decide, ⟨steadyRemote false integrating, by decide⟩, by decide, by decide, by decide⟩

/-- Presses in DOZE, in the entry to DOZE, in STANDBY with remote wake on and off, and with a request waiting. -/
theorem witness_RemotePressReachesThePowerController :
    let dozing := steadyRemote true (powered .doze .paused)
    let entering := dozing.onPower fun p => { p with changing := true }
    let off := steadyRemote true (powered .standby .lost)
    let deaf := off.onSession fun x => { x with remoteWake := false }
    let waits := (steadyRemote true integrating).onPower fun p => { p with waiting := true }
    (∀ s ∈ [dozing, entering, off, deaf, waits], s.power.state ≠ .hold ∧ s.lines.remoteLow = true ∧
      s.seq.remotePressed = false ∧ s.seq.debounceTimer = some s.seq.clock) ∧
      dozing.power.changing = false ∧ off.session.remoteWake = true ∧ waits.power.state = .active := by
  decide

/-- A start can be made, and cannot in another phase, in a session that does not run, or during a readout (R31). -/
theorem witness_AStartCanBeMadeOrNot :
    integrating.canStart = true ∧ (inPhase .waitOpen integrating).canStart = false ∧
      (inPhase .waitStart (inSession .draining)).canStart = false ∧
      (withDesc 5 (lightIn .reading 9) integrating).canStart = false := by
  decide

theorem witness_ShutterAndAlarmMoveTheSequencer :
    (∃ s : State, s.lines.shutterClosed = false ∧ s.seq.phase = .waitShutter ∧ s.seq.shutterTimer = some s.seq.clock) ∧
    (∃ s : State, s.lines.shutterClosed = true ∧ s.seq.phase = .waitOpen ∧ s.seq.shutterTimer = some s.seq.clock ∧
      s.running = true) ∧
    (∃ s : State, s.lines.shutterClosed = true ∧ s.seq.phase = .waitOpen ∧ s.seq.shutterTimer = some s.seq.clock ∧
      s.running = false ∧ s.session.state = .draining) ∧
    (∃ s : State, s.lines.shutterClosed = true ∧ s.seq.phase ≠ .waitOpen) ∧
    (∃ s : State, s.seq.wakeAlarm = some s.seq.clock) ∧
    (∃ s : State, s.power.state = .doze ∧ s.power.changing = false) ∧
    (∃ s : State, s.power.state = .doze ∧ s.power.changing = true) ∧ (∃ s : State, s.power.state ≠ .doze) :=
  ⟨⟨integrating.onSeq fun q => { q with phase := .waitShutter, shutterTimer := some 0 }, by decide⟩,
    ⟨(covered integrating).onSeq fun q => { q with phase := .waitOpen, shutterTimer := some 0 }, by decide⟩,
    ⟨(covered (inSession .draining)).onSeq fun q => { q with phase := .waitOpen, shutterTimer := some 0 }, by decide⟩,
    ⟨covered State.reset, by decide⟩,
    ⟨integrating.onSeq fun q => { q with wakeAlarm := some 0 }, by decide⟩, ⟨powered .doze .idle, by decide⟩,
    ⟨(powered .doze .idle).onPower fun p => { p with changing := true }, by decide⟩, ⟨State.reset, by decide⟩⟩

theorem witness_StartsAreMadeWhereTheyCanBe :
    (∃ s : State, s.seq.cadenceTimer = some s.seq.clock ∧ s.plan.triggerMode = .timed ∧ s.canStart = true ∧
      s.seq.keptExpiry = true) ∧
    (∃ s : State, s.seq.cadenceTimer = some s.seq.clock ∧ s.canStart = false) ∧
    (∃ s : State, QuietTaking (onS [7]) s ∧ 2 ≤ byteCount (onS [7]) ∧ s.running = true ∧
      s.plan.triggerMode ≠ .single) ∧
    (∃ s : State, QuietTaking (onS [7]) s ∧ s.running = true ∧ s.plan.triggerMode = .single ∧ s.canStart = false) ∧
    (∃ s : State, QuietTaking (onS [7]) s ∧ s.running = true ∧ s.plan.triggerMode = .single ∧ s.canStart = true) := by
  unfold QuietTaking
  exact ⟨⟨integrating.onSeq fun q => { q with cadenceTimer := some 0, keptExpiry := true }, by decide⟩,
    ⟨State.reset.onSeq fun q => { q with cadenceTimer := some 0 }, by decide⟩, ⟨integrating, by decide⟩,
    ⟨withDesc 0 (lightIn .reading 1) (inMode .single integrating), by decide⟩,
    ⟨inMode .single integrating, by decide⟩⟩

theorem witness_AStartTakesItsSteps :
    (∃ s : State, s.running = true ∧ s.session.pendingPlan = none ∧
      s.plan.subLimit ≤ s.session.totals.subsOpened ∧ s.plan.autoFinish = true) ∧
    (∃ s : State, s.running = true ∧ s.session.pendingPlan = none ∧
      s.plan.subLimit ≤ s.session.totals.subsOpened ∧ s.plan.autoFinish = false) ∧
    (∃ s : State, s.running = true ∧ s.session.pendingPlan = none ∧
      ¬s.plan.subLimit ≤ s.session.totals.subsOpened ∧ ∀ i : Fin 6, s.ring.desc[i].inFlight = true) ∧
    (∃ s : State, s.running = true ∧ s.session.pendingPlan = none ∧
      ¬s.plan.subLimit ≤ s.session.totals.subsOpened ∧ s.ring.desc[0].inFlight = false ∧ s.plan.darkCadence = 0) ∧
    (∃ s : State, s.running = true ∧ s.session.pendingPlan = none ∧
      ¬s.plan.subLimit ≤ s.session.totals.subsOpened ∧ s.ring.desc[0].inFlight = false ∧ s.plan.darkCadence ≠ 0 ∧
      s.plan.darkCadence ≤ s.seq.lightsSinceDark ∧ s.lines.shutterClosed = false) ∧
    (∃ s : State, s.running = true ∧ s.session.pendingPlan = none ∧
      ¬s.plan.subLimit ≤ s.session.totals.subsOpened ∧ s.ring.desc[0].inFlight = false ∧ s.plan.darkCadence ≠ 0 ∧
      s.plan.darkCadence ≤ s.seq.lightsSinceDark ∧ s.lines.shutterClosed = true) ∧
    (∃ s : State, s.running = true ∧ s.session.pendingPlan = some 3 ∧ s.session.plans[3].autoFinish = true ∧
      s.session.plans[3].subLimit ≤ s.session.totals.subsOpened) ∧
    (∃ s : State, s.running = true ∧ s.session.pendingPlan = some 3 ∧
      ¬s.session.plans[3].subLimit ≤ s.session.totals.subsOpened ∧ s.session.plans[3].durationLimit = 0) :=
  ⟨⟨integrating.onSession fun x => { x with totals := { x.totals with subsOpened := 65535 } }, by decide⟩,
    ⟨withPlan (fun p => { p with autoFinish := false, subLimit := 1 })
      (integrating.onSession fun x => { x with totals := { x.totals with subsOpened := 1 } }), by decide⟩,
    ⟨integrating.onRing fun r => { r with desc := Vector.replicate 6 (lightIn .waiting 1) }, by decide⟩,
    ⟨integrating, by decide⟩,
    ⟨withPlan (fun p => { p with darkCadence := 255 }) (integrating.onSeq fun q => { q with lightsSinceDark := 255 }),
      by decide⟩,
    ⟨withPlan (fun p => { p with darkCadence := 1 })
      ((covered integrating).onSeq fun q => { q with lightsSinceDark := 1 }), by decide⟩,
    ⟨integrating.onSession fun x =>
      { x with pendingPlan := some 3, totals := { x.totals with subsOpened := 65535 } }, by decide⟩,
    ⟨integrating.onSession fun x => { x with pendingPlan := some 3 }, by decide⟩⟩

theorem witness_TheRingChoosesTheLowestSubNumber :
    (withDesc 0 (lightIn .waiting 7) (withDesc 1 (lightIn .waiting 3) State.reset)).ring.nextWaiting = some 1 ∧
      (withDesc 0 (lightIn .waiting 7) (withDesc 1 (lightIn .retired 3) State.reset)).ring.openingChoice = some 2 := by
  decide

theorem witness_AnExposureEndsIntoReading :
    (exposing .light integrating).seq.phase = .exposing ∧
      (exposing .light integrating).seq.current = some ⟨3, 4, .light, 0, 500, false⟩ ∧
      (exposing .light integrating).running = true ∧
      (exposing .light integrating).ring.desc[3].snapshot.triggerMode ≠ .remoteGate ∧
      (exposing .light integrating).ring.desc[3].exposure ≤ ((exposing .light integrating).seq.clock - 0).toNat ∧
      (exposing .light integrating).plan.triggerMode = .timed ∧
      (exposing .dark (covered integrating)).seq.current = some ⟨3, 4, .dark, 0, 500, false⟩ ∧
      (exposing .dark (covered integrating)).lines.shutterClosed = true ∧
      (∀ s ∈ [gateLight 500 true (inMode .single integrating), gateLight 900000 false (inMode .single integrating),
          gateLight 499 true integrating, gateLight 899999 false integrating],
        s.seq.phase = .exposing ∧ s.ring.desc[3].snapshot.triggerMode = .remoteGate ∧ s.running = true) ∧
      (gateLight 500 true (inMode .single integrating)).seq.current = some ⟨3, 4, .light, 0, 500, true⟩ ∧
      (inMode .single integrating).plan.triggerMode ≠ .timed ∧
      (exposing .light (inSession .draining)).running = false := by
  decide

theorem witness_FrameStartsAreJudged :
    (∃ s : State, s.port.reception = .idle ∧ s.reading = some 5 ∧ s.powered = true) ∧
    (∃ s : State, s.port.reception = .discarding ∧ s.reading = none) ∧
    (∃ s : State, s.port.reception = .idle ∧ s.powered = false) ∧
    (∃ s : State, s.port.reception = .receiving 9 ∧ s.reading = some 5 ∧
      (∀ j : Fin 6, s.ring.desc[j].state = .reading → j = 5) ∧ s.seq.phase = .exposing ∧
      (s.seq.current.map fun c => c.index) = some 3 ∧ s.session.state = .draining) :=
  ⟨⟨withDesc 5 (lightIn .reading 9) integrating, by decide⟩,
    ⟨integrating.onPort fun p => { p with reception := .discarding }, by decide⟩, ⟨powered .hold .paused, by decide⟩,
    ⟨withDesc 5 (lightIn .reading 9)
      (exposing .light ((inSession .draining).onPort fun p => { p with reception := .receiving 9 })), by decide⟩⟩

theorem witness_AnImageLineWritesItsRow :
    ∃ s : State, s.port.sync = .synced ∧ s.port.reception = .receiving 9 ∧ s.reading = some 5 ∧ s.memoryWf = true ∧
      s.port.width ≤ stagingColumns ∧ s.power.memory = .active ∧ s.port.lineCount + 1 = s.port.height ∧
      [[1#14, 3], [2, 4]] ≠ [] ∧ ∀ lane ∈ [[1#14, 3], [2, 4]], lane.length = 2 :=
  ⟨withDesc 5 (lightIn .reading 9)
    (integrating.onPort fun p => { p with sync := .synced, reception := .receiving 9, lineCount := 4031 }), by decide⟩

theorem witness_TrailersAndTimeoutsEndAFrame :
    (∃ s : State, s.reading = some 5 ∧ s.port.sync = .synced ∧ s.port.reception = .receiving 9 ∧
      s.port.lineCount = s.port.height ∧ s.port.frameFailed = false) ∧
    (∃ s : State, s.reading = some 5 ∧ s.port.sync = .synced ∧ s.port.reception = .receiving 9 ∧
      s.port.lineCount ≠ s.port.height) ∧
    (∃ s : State, s.reading = some 5 ∧ s.port.readoutTimer = some s.seq.clock ∧ s.port.reception = .idle) ∧
    (∃ s : State, s.reading = some 5 ∧ s.port.readoutTimer = some s.seq.clock ∧ s.port.reception = .receiving 9) ∧
    (∃ s : State, s.reading = some 5 ∧ s.port.readoutTimer = some s.seq.clock ∧ s.port.reception = .discarding ∧
      s.port.sync = .synced) ∧
    State.reset.port.sync = .awaitingFrameStart :=
  ⟨⟨withDesc 5 (lightIn .reading 9)
      (integrating.onPort fun p => { p with sync := .synced, reception := .receiving 9, lineCount := 4032 }), by decide⟩,
    ⟨withDesc 5 (lightIn .reading 9)
      (integrating.onPort fun p => { p with sync := .synced, reception := .receiving 9, lineCount := 4033 }), by decide⟩,
    ⟨withDesc 5 (lightIn .reading 9) (integrating.onPort fun p => { p with readoutTimer := some 0 }), by decide⟩,
    ⟨withDesc 5 (lightIn .reading 9)
      (integrating.onPort fun p => { p with readoutTimer := some 0, reception := .receiving 9 }), by decide⟩,
    ⟨withDesc 5 (lightIn .reading 9) (integrating.onPort fun p =>
      { p with sync := .synced, readoutTimer := some 0, reception := .discarding }), by decide⟩, by decide⟩

theorem witness_RetirementsKeepTheAccount :
    (withDesc 5 (lightIn .merging 9) integrating).ring.desc[5].inFlight = true ∧
      integrating.session.state ≠ .draining ∧
      ((inSession .referencing).onSession fun x => { x with attempts := 3 }).session.state = .referencing ∧
      (integrating.onSession fun x => { x with movedCount := 2 }).running = true ∧
      (integrating.onSession fun x => { x with geometryCount := 2 }).running = true := by
  decide

theorem witness_LimitsDrainAndDrainsFinish :
    (∃ s : State, s.running = true ∧ s.plan.autoFinish = true ∧ s.plan.durationLimit ≠ 0 ∧
      60000 * s.plan.durationLimit ≤ s.session.runTime ∧ s.seq.phase = .waitStart ∧ s.ring.desc[5].inFlight = true) ∧
    (∃ s : State, s.session.state = .draining ∧ ∀ i : Fin 6, s.ring.desc[i].inFlight = false) ∧
    (∃ s : State, s.session.state = .draining ∧ s.ring.desc[5].inFlight = true ∧
      ∀ j : Fin 6, j ≠ 5 → s.ring.desc[j].inFlight = false) ∧
    (∃ s : State, s.session.state = .draining ∧ ∃ j : Fin 6, j ≠ 5 ∧ s.ring.desc[j].inFlight = true) :=
  ⟨⟨withPlan (fun p => { p with durationLimit := 1440 })
      (withDesc 5 (lightIn .merging 9) (integrating.onSession fun x => { x with runTime := 86400000 })), by decide⟩,
    ⟨withDesc 0 (lightIn .retired 1) (inSession .draining), by decide⟩,
    ⟨withDesc 5 (lightIn .merging 9) (inSession .draining), by decide⟩,
    ⟨withDesc 0 (lightIn .waiting 8) (inSession .draining), by decide⟩⟩

theorem witness_TheEngineTakesJobsInOrder :
    (∃ s : State, s.powered = true ∧ s.engine.job = .none ∧ s.engine.stop = .none ∧ s.engine.clearPending = true) ∧
    (∃ s : State, s.powered = true ∧ s.engine.job = .none ∧ s.engine.stop = .none ∧ s.engine.clearPending = false ∧
      s.engine.finishPending = true) ∧
    (∃ s : State, s.powered = true ∧ s.engine.job = .none ∧ s.engine.stop = .none ∧ s.engine.clearPending = false ∧
      s.engine.finishPending = false ∧ s.engine.previewPending = true ∧ s.pLink.response = none) ∧
    (∃ s : State, s.powered = true ∧ s.engine.job = .none ∧ s.engine.stop = .none ∧ s.engine.clearPending = false ∧
      s.engine.finishPending = false ∧ s.engine.previewPending = false ∧
      ∀ j : Fin 6, s.ring.desc[j].state ≠ .waiting) ∧
    (∃ s : State, s.powered = true ∧ s.engine.job = .none ∧ s.engine.stop = .none ∧ s.engine.clearPending = false ∧
      s.engine.finishPending = false ∧ s.engine.previewPending = true ∧
      s.pLink.response = some ⟨⟨0x1f, 7, .done, [], []⟩, some ⟨.preview, 0, 2⟩⟩ ∧ s.ring.nextWaiting = some 5 ∧
      s.ring.desc[5].kind = .light ∧ s.session.referenceSet = true ∧ s.ring.desc[5].pose.quality = .steady) ∧
    (∃ s : State, s.powered = true ∧ s.ring.nextWaiting = some 5 ∧ s.ring.desc[5].kind = .light ∧
      s.session.referenceSet = true ∧ s.ring.desc[5].pose.quality ≠ .steady) :=
  ⟨⟨(inSession .arming).onEngine fun e => { e with clearPending := true }, by decide⟩,
    ⟨(inSession .finishing).onEngine fun e => { e with finishPending := true }, by decide⟩,
    ⟨integrating.onEngine fun e => { e with previewPending := true }, by decide⟩, ⟨integrating, by decide⟩,
    ⟨((withDesc 5 (lightIn .waiting 9) integrating).onEngine fun e => { e with previewPending := true }).onPLink
      fun l => { l with response := some ⟨⟨0x1f, 7, .done, [], []⟩, some ⟨.preview, 0, 2⟩⟩ }, by decide⟩,
    ⟨withDesc 5 { lightIn .waiting 9 with pose := .reported 0 0 0 .shaken } integrating, by decide⟩⟩

/-- A dark of band 26 with a slot of that band, below 64 darks and at 64, with an EMPTY slot, with a READY slot to
replace, and with none. -/
theorem witness_TheEngineTakesDarksByTheirBand :
    let waiting := withDesc 5 (darkIn .waiting 9) integrating
    let sameBand := fun n : Nat => { fullLibrary with slots := fullLibrary.slots.set 1 ⟨.ready, 26, n, 41⟩ }
    let building := { fullLibrary with
      slots := #v[⟨.building, 10, 1, 40⟩, ⟨.building, 11, 1, 41⟩, ⟨.building, 12, 1, 42⟩, ⟨.building, 13, 1, 43⟩] }
    waiting.ring.nextWaiting = some 5 ∧ waiting.ring.desc[5].kind = .dark ∧
      bandOf (waiting.ring.desc[5].temperature.getD 0) = 26 ∧
      (∀ n ∈ [63, 64], (sameBand n).slots[1].state ≠ .empty ∧ (sameBand n).slots[1].band = 26 ∧
        (∀ j : Fin 4, (sameBand n).slots[j].band = 26 → j = 1) ∧ (sameBand n).slots[1].count = n) ∧
      (∀ j : Fin 4, waiting.darks.slots[j].state = .empty) ∧
      (∀ j : Fin 4, fullLibrary.slots[j].state ≠ .empty ∧ fullLibrary.slots[j].band ≠ 26) ∧
      fullLibrary.useOrder = [] ++ 2 :: [3, 0, 1] ∧ fullLibrary.slots[2].state = .ready ∧
      (∀ j ∈ building.useOrder, building.slots[j].state ≠ .ready) := by
  decide

/-- A light of band 11 has its own slot, one of band 14 the slot below, one of band 9 the slot above, one of band 12 with
its own slot BUILDING the fuller of the two beside it, and one of band 40 the black level (R100). -/
theorem witness_CalibrationFollowsTheBands :
    let between := #v[⟨.ready, 10, 8, 40⟩, ⟨.ready, 11, 8, 41⟩, ⟨.building, 12, 1, 42⟩, ⟨.ready, 13, 9, 43⟩]
    fullLibrary.calibrationFor 11 = (.exact, some 1) ∧ fullLibrary.calibrationFor 14 = (.neighbour, some 3) ∧
      fullLibrary.calibrationFor 9 = (.neighbour, some 0) ∧
      DarkLibrary.calibrationFor { fullLibrary with slots := between } 12 = (.neighbour, some 3) ∧
      fullLibrary.calibrationFor 40 = (.blackLevel, none) := by
  decide

theorem witness_AClearedTileHoldsZeros :
    ∃ s : State, s.powered = true ∧ s.engine.job = .planeClear ∧ s.engine.work = .none ∧ s.engine.stop = .none ∧
      s.engine.tilesDone < s.tileCount ∧ s.memoryWf = true :=
  ⟨onJob .planeClear .none (inSession .arming), by decide⟩

/-- A part settled in DOZE grants nobody. -/
theorem witness_ArbiterSleepsWithTheMemory :
    let s := (powered .doze .idle).onPower fun p => { p with memory := .selfRefresh, engineOn := false }
    s.powered = false ∧ s.power.memory ≠ .active ∧ s.engine.stop ≠ .close := by
  decide

/-- A light and a dark in their merges, in a part of one tile. -/
theorem witness_MergedTilesAccountForEveryContribution :
    (∃ s : State, s.powered = true ∧ s.engine.job = .descriptor 5 ∧ s.engine.stop = .none ∧
      s.engine.tilesDone < s.tileCount ∧ s.engine.work = .merging .merged true (some Transform.identity)) ∧
    (∃ s : State, s.powered = true ∧ s.engine.job = .descriptor 5 ∧ s.engine.stop = .none ∧
      s.engine.tilesDone < s.tileCount ∧ s.engine.work = .darkMerging ∧ s.darks.mergeTarget = some 3 ∧
      s.memoryWf = true ∧ 64 ≤ s.port.width) ∧
    (∃ (l : Light) (acc : MergeAcc), 64 ≤ l.width ∧ regionWf CellRecord.zero acc.sky = true ∧
      regionWf CellRecord.zero acc.ground = true) :=
  ⟨⟨oneTile (onJob (.descriptor 5) (.merging .merged true (some Transform.identity)) integrating), by decide⟩,
    ⟨(oneTile (onJob (.descriptor 5) .darkMerging integrating)).onDarks fun d => { d with mergeTarget := some 3 },
      by decide⟩,
    ⟨(oneTile integrating).lightOf 5 none, ⟨[], [], 0, 0, 0⟩, by decide⟩⟩

/-- A cell whose centre falls on the lowest corner of a sub cell of its tile, one moved out of the frame, and one on
ground. -/
theorem witness_ContributionsFollowTheTransform :
    let l := (oneTile integrating).lightOf 5 none
    let on := (⟨0, -16, 16⟩ : Transform).apply l.width l.height (32 * 31 + 16, 32 * 0 + 16)
    let out := (⟨0, 16, 0⟩ : Transform).apply l.width l.height (32 * 31 + 16, 32 * 0 + 16)
    on = (32 * 31, 32 * 1) ∧ 31 < l.width / 2 ∧ 1 < l.height / 2 ∧ out.1 = 32 * (l.width / 2 : Nat) ∧
      (regionRead TileEntry.default l.tiles (tileIndex l.width (31 / 32) (0 / 32))).tileClass ≠ .ground ∧
      (regionRead TileEntry.default [(0, ⟨.ground, 0⟩)] (tileIndex l.width (31 / 32) (0 / 32))).tileClass = .ground ∧
      (65535 < 65536 ∧ 65535 / 16384 = 3 ∧ 32768 / 16384 = 2 ∧ 16384 / 16384 = 1 ∧ 16383 / 16384 = 0) := by
  decide +kernel

theorem witness_JobsCompleteWithTheirEffects :
    (∀ s ∈ [doneJob .planeClear .none (inSession .arming),
        doneJob (.descriptor 5) (.merging .merged true none) integrating,
        doneJob .finish .none (inSession .finishing), doneJob .preview (.preview ⟨1, 0, 0, 1024⟩) integrating],
      s.tileCount ≤ s.engine.tilesDone ∧ s.engine.stop ≠ .close ∧ s.session.pendingPlan = none) ∧
    (doneJob .planeClear .none (inSession .arming)).session.state = .arming ∧
    (doneJob (.descriptor 5) (.merging .merged true none) integrating).session.state = .integrating ∧
    (doneJob .finish .none (inSession .finishing)).session.state = .finishing ∧
    (doneJob .preview (.preview ⟨1, 0, 0, 1024⟩) integrating).engine.work = .preview ⟨1, 0, 0, 1024⟩ ∧
    ((doneJob .finish .none (inSession .finishing)).onSession fun x =>
      { x with pendingPlan := some 3 }).session.pendingPlan = some 3 ∧
    (doneJob (.descriptor 5) (.merging (.groundOnly .noStars) false none) (inSession .draining)).engine.work =
      .merging (.groundOnly .noStars) false none ∧
    (∃ s : State, s.tileCount ≤ s.engine.tilesDone ∧ s.engine.stop ≠ .close ∧ s.engine.job = .descriptor 5 ∧
      s.engine.work = .darkMerging ∧ s.darks.mergeTarget = some 3) :=
  ⟨by decide, by decide, by decide, by decide, by decide, by decide, by decide,
    ⟨doneJob (.descriptor 5) .darkMerging (integrating.onDarks fun d => { d with mergeTarget := some 3 }), by decide⟩⟩

/-- A plan with the smallest windows. -/
def smallWindows : Plan := { Plan.default with windowRadius := 4 }

/-- A frame of 176 × 14 pixels with one bright pixel in each of six cells that lie 32 pixels apart. -/
def sixStars : State :=
  let s := onJob (.descriptor 5) (.measuring false (some (.blackLevel, none))) (inSession .referencing)
  let s := withDesc 5 { lightIn .measuring 9 with snapshot := smallWindows } s
  let s := s.onPort fun p => { p with width := 176, height := 14 }
  let stars := (List.range 6).map fun k => (stagingIndex (8 + 32 * k) 6, 16383)
  s.onDram fun d => { d with staging := d.staging.set 5 stars }

/-- The six candidates of that frame, each with the flux of its one bright cell. -/
theorem test_sixStars_candidates : (sixStars.lightOf 5 none).candidates smallWindows.starThreshold =
    [⟨4, 3, 13823⟩, ⟨20, 3, 13823⟩, ⟨36, 3, 13823⟩, ⟨52, 3, 13823⟩, ⟨68, 3, 13823⟩, ⟨84, 3, 13823⟩] := by
  decide +kernel

theorem witness_MeasurementsApplyTheirResultsTogether :
    (∃ s : State, s.powered = true ∧ s.engine.job = .descriptor 5 ∧ s.engine.stop = .none ∧
      s.engine.work = .measuring true none ∧ s.ring.desc[5].pose = .reported 0 0 0 .shaken ∧
      s.session.state = .integrating) ∧
    (∃ s : State, s.powered = true ∧ s.engine.job = .descriptor 5 ∧ s.engine.stop = .none ∧
      s.engine.work = .measuring true none ∧ s.ring.desc[5].pose = .reported 0 0 0 .moved ∧
      s.session.movedCount = 2) ∧
    (∃ s : State, s.powered = true ∧ s.engine.job = .descriptor 5 ∧ s.engine.stop = .none ∧
      s.engine.work = .measuring true (some (.blackLevel, none)) ∧
      s.ring.desc[5].pose = .reported 0 0 0 .steady ∧ s.ring.desc[5].pose.quality = .steady) ∧
    (∃ s : State, s.powered = true ∧ s.engine.job = .descriptor 5 ∧ s.engine.stop = .none ∧
      s.engine.work = .measuring true (some (.exact, some 1)) ∧ s.ring.desc[5].pose = .absent ∧
      s.ring.desc[5].pose.quality = .steady ∧ s.guidance.reacquisitionDue = true) ∧
    (sixStars.powered = true ∧ sixStars.engine.job = .descriptor 5 ∧ sixStars.engine.stop = .none ∧
      sixStars.engine.work = .measuring false (some (.blackLevel, none)) ∧ sixStars.session.state = .referencing ∧
      6 ≤ ((sixStars.lightOf 5 none).takeStars smallWindows.windowRadius smallWindows.starThreshold id referencingEntries
        (heldPositions sixStars.guidance.stars)
        ((sixStars.lightOf 5 none).candidates smallWindows.starThreshold)).length) :=
  ⟨⟨withDesc 5 { lightIn .measuring 9 with pose := .reported 0 0 0 .shaken }
      (onJob (.descriptor 5) (.measuring true none) integrating), by decide⟩,
    ⟨withDesc 5 { lightIn .measuring 9 with pose := .reported 0 0 0 .moved }
      (onJob (.descriptor 5) (.measuring true none) (integrating.onSession fun x => { x with movedCount := 2 })),
      by decide⟩,
    ⟨withDesc 5 { lightIn .measuring 9 with pose := .reported 0 0 0 .steady }
      (onJob (.descriptor 5) (.measuring true (some (.blackLevel, none))) integrating), by decide⟩,
    ⟨withDesc 5 (lightIn .measuring 9) (onJob (.descriptor 5) (.measuring true (some (.exact, some 1)))
      ((integrating.onDarks fun _ => fullLibrary).onGuidance fun g => { g with reacquisitionDue := true })),
      by decide⟩, by
    rw [test_sixStars_candidates]
    decide +kernel⟩

/-- The reference is set in PAUSED too, with fewer than 8 stars in a table that was VACANT. -/
theorem witness_TheReferenceIsSetInPaused :
    let s := sixStars.onSession fun x => { x with state := .paused, pauseCause := some .request }
    let l := s.lightOf 5 none
    let taken := l.takeStars smallWindows.windowRadius smallWindows.starThreshold id referencingEntries
      (heldPositions s.guidance.stars) (l.candidates smallWindows.starThreshold)
    s.session.state ≠ .referencing ∧ (∀ k : Fin 24, s.guidance.stars[k].state = .vacant) ∧ taken.length = 6 := by
  decide +kernel

/-- A candidate that is taken, one too near the edge, one without a centroid, and one too near a star held. -/
theorem witness_CandidatesAreJudgedByTheirSteps :
    let l := sixStars.lightOf 5 none
    let room : Int := 16 * (4 + 2)
    (room ≤ 32 * 4 + 16 ∧ room ≤ 16 * l.width - (32 * 4 + 16) ∧ room ≤ 32 * 3 + 16 ∧ room ≤ 16 * l.height - (32 * 3 + 16)) ∧
      l.centroid (2 * 4 + 1) (2 * 3 + 1) 4 smallWindows.starThreshold = some (144, 112) ∧
      (512 ≤ max |(144 : Int) - 656| |(112 : Int) - 112|) ∧ ¬(512 ≤ max |(144 : Int) - 655| |(112 : Int) - 112|) ∧
      ¬room ≤ 32 * 2 + 16 ∧ l.centroid (2 * 12 + 1) (2 * 3 + 1) 4 smallWindows.starThreshold = none := by
  decide +kernel

/-- A frame without a star finds none, so that a referencing attempt fails. -/
theorem witness_AReferencingAttemptFails :
    let s := oneTile (withDesc 5 { lightIn .measuring 9 with snapshot := smallWindows }
      (onJob (.descriptor 5) (.measuring false (some (.blackLevel, none))) (inSession .referencing)))
    s.engine.work = .measuring false (some (.blackLevel, none)) ∧
      ((s.lightOf 5 none).takeStars smallWindows.windowRadius smallWindows.starThreshold id referencingEntries
        (heldPositions s.guidance.stars) ((s.lightOf 5 none).candidates smallWindows.starThreshold)).length < 6 := by
  decide +kernel

/-- A star to be measured: VACANT, predicted outside the image, on ground, and inside. -/
theorem witness_StarsAreMeasuredFromTheirPredictions :
    let l := (oneTile integrating).lightOf 5 none
    let p := Transform.identity.apply l.width l.height (512, 512)
    Star.vacated.state = .vacant ∧ (0 ≤ p.1 / 16 - 4 ∧ p.1 / 16 + 4 ≤ (l.width : Int) - 1) ∧
      (Transform.identity.apply l.width l.height (0, 0)).1 / 16 - 4 < 0 ∧
      (regionRead TileEntry.default l.tiles 0).tileClass ≠ .ground ∧
      (regionRead TileEntry.default [(0, ⟨.ground, 0⟩)] 0).tileClass = .ground ∧
      [3, 1, 2].Perm [1, 2, 3] ∧ [1, 2, 3].Pairwise (fun a b => a ≤ b) := by
  decide +kernel

theorem witness_TheHoldEntryPausesARunningSession :
    ∃ s : State, s.power.state = .active ∧ s.power.changing = false ∧ s.running = true ∧ s.seq.phase = .waitStart ∧
      s.reading = none ∧ s.engine.job = .none ∧ s.engine.previewPending = false ∧ s.lines.pfWarn = false :=
  ⟨integrating, by decide⟩

/-- Hold entries of a part that exposes, reads, dozes, has a preview pending, measures, merges, closes and answers a bulk
read. -/
theorem witness_TheHoldEntryStopsEveryUnit :
    let busy := onJob (.descriptor 5) (.merging .merged true none) integrating
    let merging := busy.onEngine fun e => { e with tilesDone := 1 }
    let measuring := onJob (.descriptor 5) (.measuring true none) integrating
    let closing := (onJob .planeClear .none integrating).onEngine fun e => { e with stop := .close }
    let answers := integrating.onPLink fun l =>
      { l with response := some ⟨⟨0x1f, 7, .done, [], []⟩, some ⟨.preview, 0, 2⟩⟩ }
    let shows := integrating.onEngine fun e => { e with previewPending := true }
    (∀ s ∈ [exposing .light integrating, withDesc 5 (lightIn .reading 9) integrating, powered .doze .integrating, shows,
        onJob .planeClear .none integrating, measuring, merging, closing, answers],
      (s.power.state = .active ∨ s.power.state = .doze) ∧ s.power.changing = false ∧ s.running = true) ∧
      (exposing .light integrating).reading = none ∧ (exposing .light integrating).engine.job = .none ∧
      (withDesc 5 (lightIn .reading 9) integrating).reading = some 5 ∧ measuring.engine.stop = .none ∧
      merging.engine.stop = .none ∧ 0 < merging.engine.tilesDone ∧ closing.engine.stop = .close := by
  decide

/-- Hold entries of sessions that do not run: a pause with nothing in flight, a drain that ends and one that goes on, by the
exposing sub and by the one being read, and merges of a light and of a dark with no tile done; and of a part that keeps a dark
slot alone. -/
theorem witness_TheHoldEntryKeepsTheOtherSessions :
    let ends := exposing .light (inSession .draining)
    let reads := withDesc 5 (lightIn .reading 9) (inSession .draining)
    let goesOn := withDesc 1 (lightIn .waiting 3)
    let light := onJob (.descriptor 5) (.merging .merged true none) (inSession .paused)
    let dark := (onJob (.descriptor 5) .darkMerging (inSession .paused)).onDarks fun d => { d with mergeTarget := some 3 }
    let library := State.reset.onDarks fun _ => fullLibrary
    (∀ s ∈ [inSession .paused, ends, reads, goesOn ends, goesOn reads, light, dark, library],
      s.power.state = .active ∧ s.power.changing = false ∧ s.session.state ∉ [.referencing, .integrating] ∧
        (s.session.state ∉ [.idle, .lost] ∨ ∃ k : Fin 4, s.darks.slots[k].state ≠ .empty)) ∧
      (∀ s ∈ [inSession .paused, light, dark], s.session.state ≠ .draining ∧ s.seq.phase ≠ .exposing ∧ s.reading = none ∧
        s.engine.stop = .none ∧ s.engine.tilesDone = 0) ∧
      dark.darks.mergeTarget = some 3 ∧
      (∀ s ∈ [ends, goesOn ends], s.seq.phase = .exposing ∧ s.seq.current.map CurrentExposure.index = some 3 ∧
        s.reading = none ∧ s.engine.job = .none) ∧
      (∀ s ∈ [reads, goesOn reads], s.seq.phase ≠ .exposing ∧ s.reading = some 5 ∧ s.engine.job = .none) ∧
      (∀ j : Fin 6, j ≠ 3 → ends.ring.desc[j].inFlight = false) ∧
      (∀ j : Fin 6, j ≠ 5 → reads.ring.desc[j].inFlight = false) ∧
      (goesOn ends).ring.desc[1].inFlight = true ∧ (goesOn reads).ring.desc[1].inFlight = true := by
  decide

/-- Tiles that end under a hold's stop request, one for each kind of job. -/
theorem witness_AHoldStopsTheEngineAtATileEnd :
    (∀ s ∈ [onJob .planeClear .none (inSession .arming), onJob .finish .none (inSession .finishing),
        onJob .preview (.preview ⟨1, 0, 0, 1024⟩) (inSession .finished),
        onJob (.descriptor 5) (.measuring true none) (inSession .paused),
        onJob (.descriptor 5) (.merging .merged true none) (inSession .paused),
        onJob (.descriptor 5) .darkMerging (inSession .paused)],
      s.power.memory = .active ∧ s.engine.tilesDone + 1 < s.tileCount ∧ s.session.state ≠ .draining) ∧
    (((onJob (.descriptor 5) .darkMerging (inSession .paused)).onEngine fun e => { e with stop := .hold }).onDarks
      fun d => { d with mergeTarget := some 3 }).darks.mergeTarget = some 3 ∧
    ((onJob .finish .none (inSession .finishing)).onEngine fun e => { e with stop := .hold }).engine.stop = .hold := by
  decide

theorem witness_AHoldEndsByReturnOrExpiry :
    (holding.power.state = .hold ∧ holding.session.pauseCause ≠ some .hold ∧
      holding.power.reserveTimer = some holding.seq.clock ∧ holding.session.state = .paused ∧
      holding.session.pendingPlan = none ∧ holding.lines.pfWarn = true) ∧
    (∃ s : State, s.power.state = .hold ∧ s.session.state = .paused ∧ s.session.pauseCause = some .hold ∧
      s.plan.resumeAfterHold = true ∧ ¬s.plan.subLimit ≤ s.session.totals.subsOpened ∧ s.plan.durationLimit = 0) ∧
    (∃ s : State, s.power.state = .hold ∧ s.session.state = .paused ∧ s.session.pauseCause = some .hold ∧
      s.plan.resumeAfterHold = true ∧ s.plan.autoFinish = true ∧
      s.plan.subLimit ≤ s.session.totals.subsOpened) ∧
    (∃ s : State, s.power.state = .hold ∧ s.session.state = .paused ∧ s.session.pauseCause = some .hold ∧
      s.plan.resumeAfterHold = false) ∧
    (∃ s : State, s.power.state = .hold ∧ s.power.reserveTimer = some s.seq.clock ∧ s.session.state ≠ .idle ∧
      s.session.state ≠ .lost ∧ s.session.pendingPlan = some 3) ∧
    (∃ s : State, s.power.state = .hold ∧ s.power.reserveTimer = some s.seq.clock ∧ s.session.state = .idle) ∧
    (∃ s : State, s.lines.pfWarn = false ∧ s.holdReady = false) ∧
    (∃ s : State, s.lines.pfWarn = true ∧ s.power.state ≠ .hold) :=
  ⟨by decide, ⟨heldSession, by decide⟩,
    ⟨heldSession.onSession fun x => { x with totals := { x.totals with subsOpened := 65535 } }, by decide⟩,
    ⟨withPlan (fun p => { p with resumeAfterHold := false }) heldSession, by decide⟩,
    ⟨heldSession.onSession fun x => { x with pendingPlan := some 3 }, by decide⟩,
    ⟨heldSession.onSession fun x => { x with state := .idle, pauseCause := none }, by decide⟩,
    ⟨State.reset, by decide⟩, ⟨State.reset.onLines fun l => { l with pfWarn := true }, by decide⟩⟩

/-- The time remaining: a REMOTE_GATE light before and after its minimum, a light of 500 ms at its end and 200 ms after its
start, a Cadence Timer, a kept expiry, and none outside a running session (R42, R140). -/
theorem test_time_remaining :
    (gateLight 499 false integrating).timeRemaining = some 1 ∧ (gateLight 900 false integrating).timeRemaining = some 0 ∧
      (exposing .light integrating).timeRemaining = some 0 ∧
      ((exposing .dark integrating).onSeq fun q => { q with clock := 200 }).timeRemaining = some 300 ∧
      (integrating.onSeq fun q => { q with cadenceTimer := some 251 }).timeRemaining = some 251 ∧
      (integrating.onSeq fun q => { q with keptExpiry := true }).timeRemaining = some 0 ∧
      ((inSession .paused).onSeq fun q => { q with keptExpiry := true }).timeRemaining = none := by
  decide

/-- The hypotheses on an exposure in progress: of a fixed length, with its planned end where R27 puts it, and REMOTE_GATE. -/
theorem witness_TheTimeRemaining :
    (exposing .light integrating).seq.current = some ⟨3, 4, .light, 0, 500, false⟩ ∧
      (500 : Clock) = 0 + BitVec.ofNat 32 (exposing .light integrating).ring.desc[3].exposure ∧
      (exposing .light integrating).ring.desc[3].snapshot.triggerMode ≠ .remoteGate ∧
      (gateLight 499 false integrating).ring.desc[3].snapshot.triggerMode = .remoteGate ∧
      integrating.seq.current = none ∧ integrating.plan.triggerMode = .timed ∧ integrating.seq.keptExpiry = false := by
  decide

/-- A part that is due to doze, and one for each condition of R140 that fails alone. -/
theorem witness_TheEntryToDozeIsDueOrNot :
    let due := integrating.onSeq fun q => { q with cadenceTimer := some 251 }
    due.dozeDue = true ∧
      (∀ s ∈ [due.onPower fun p => { p with changing := true }, withPlan (fun p => { p with autoDoze := false }) due,
          due.onPower fun p => { p with stayAwake := true }, due.onEngine fun e => { e with clearPending := true },
          due.onPLink fun l => { l with response := some ⟨⟨0x1d, 7, .done, [], []⟩, some ⟨.output, 0, 2⟩⟩ },
          withDesc 5 (lightIn .reading 9) due, integrating.onSeq fun q => { q with cadenceTimer := some 250 },
          State.reset.onPower fun p => { p with waiting := true }], s.dozeDue = false) ∧
      (due.onPower fun p => { p with changing := true }).dozeConditions =
        [false, true, true, true, true, true, true, true] := by
  decide

/-- An entry to STANDBY turned round by a wake while the engine still ends the tile of a closed job (R145). -/
def turnedRound : State :=
  standbyWake .pLink (((onJob .planeClear .none (inSession .idle)).onEngine fun e => { e with stop := .close }).onPower
    fun p => { p with state := .standby, changing := true })

/-- The turned-round wake completes before that tile ends, and the tile then ends its job (R122, R139, R145). -/
theorem test_a_turned_round_wake_waits_for_no_tile :
    (after (exec .powerTransitionComplete turnedRound)).map (fun t => (t.powered, t.engine.job)) =
        some (true, .planeClear) ∧
      ((after (exec .powerTransitionComplete turnedRound)).bind fun t => after (exec .engineTileComplete t)).map
        (fun t => (t.engine.job, t.engine.stop)) = some (.none, .none) := by
  decide

theorem witness_PowerTransitionsBeginAndComplete :
    (∃ s : State, s.power.state = .active ∧ s.power.changing = false ∧ s.plan.autoDoze = true ∧
      s.power.stayAwake = false ∧ s.engineHasWork = false ∧ s.pLink.bulkRead = none ∧ s.reading = none ∧
      s.timeRemaining = some 251 ∧ ¬(s.power.waiting = true ∧ (s.session.state = .idle ∨ s.session.state = .lost))) ∧
    (∃ s : State, s.power.changing = true ∧ s.power.state = .active ∧ s.engine.stop = .none) ∧
    (turnedRound.power.changing = true ∧ turnedRound.power.state = .active ∧
      turnedRound.power.lastWake ≠ some .supplyReturn ∧ turnedRound.engine.stop = .close) ∧
    (∃ s : State, s.power.changing = true ∧ s.power.state = .active ∧ s.power.lastWake = some .supplyReturn ∧
      s.engine.stop ≠ .none) ∧
    State.reset.power.changing = false ∧
    (∃ s : State, s.power.changing = true ∧ s.power.state = .doze ∧ s.power.wakePending = false) ∧
    (∃ s : State, s.power.changing = true ∧ s.power.state = .doze ∧ s.power.wakePending = true) ∧
    (∃ s : State, s.power.changing = true ∧ s.power.state = .hold ∧ s.engine.job = .none) ∧
    (∃ s : State, s.power.changing = true ∧ s.power.state = .hold ∧ s.engine.job ≠ .none) ∧
    (∃ s : State, s.power.changing = true ∧ s.power.state = .standby ∧ s.engine.job = .none) ∧
    (∃ s : State, s.power.waiting = true ∧ s.power.state = .active ∧ s.power.changing = false ∧
      s.session.state = .idle) :=
  ⟨⟨integrating.onSeq fun q => { q with cadenceTimer := some 251 }, by decide⟩,
    ⟨State.reset.onPower fun p => { p with changing := true }, by decide⟩, by decide,
    ⟨turnedRound.onPower fun p => { p with lastWake := some .supplyReturn }, by decide⟩, by decide,
    ⟨(powered .doze .idle).onPower fun p => { p with changing := true }, by decide⟩,
    ⟨(powered .doze .idle).onPower fun p => { p with changing := true, wakePending := true }, by decide⟩,
    ⟨holding.onPower fun p => { p with changing := true }, by decide⟩,
    ⟨onJob .planeClear .none (holding.onPower fun p => { p with changing := true }), by decide⟩,
    ⟨(powered .standby .idle).onPower fun p => { p with changing := true }, by decide⟩,
    ⟨State.reset.onPower fun p => { p with waiting := true }, by decide⟩⟩

theorem witness_TemperaturesFallIntoTheirBands : (lightIn .waiting 9).temperature = some 97 ∧ (lightIn .waiting 9).band = 26 ∧
    ((integrating.onDarks fun _ => fullLibrary).lightOf 5 (some 1)).dark = some (8, []) ∧
    (integrating.lightOf 5 none).dark = none := by
  decide

/-- Plans in and outside REMOTE_GATE, an opening below the sub limit and one at it, and a full ring. -/
theorem witness_OpeningRecordsTheSub : State.reset.plan.triggerMode ≠ .remoteGate ∧
    (withPlan (fun p => { p with triggerMode := .remoteGate }) State.reset).plan.triggerMode = .remoteGate ∧
    500 ≤ State.reset.plan.subLength ∧ integrating.ring.openingChoice = some 0 ∧ integrating.running = true ∧
    integrating.plan.autoFinish = true ∧ ¬integrating.plan.subLimit ≤ integrating.session.totals.subsOpened + 1 ∧
    (withPlan (fun p => { p with subLimit := 1 }) integrating).plan.subLimit ≤
      integrating.session.totals.subsOpened + 1 ∧
    (integrating.onRing fun r => { r with desc := Vector.replicate 6 (lightIn .waiting 1) }).ring.openingChoice =
      none := by
  decide

/-- The bounds of the weight, the least count of a ground record, and the figures of section 7.4. -/
theorem witness_CompositesFollowTheTileClass : 16 ≤ 16 ∧ 0 ≤ 16 ∧ 0 < 1 ∧
    composite ⟨.blend, 12⟩ (channelValues 20 29000 20 30860) = 5893 ∧
    composite ⟨.blend, 12⟩ (channelValues 0 0 20 30860) = 6172 := by
  decide

/-- A finish and a preview on the tile of a part of one tile. -/
theorem witness_TilesOfTheFinishAndThePreview :
    (∀ s ∈ [oneTile (onJob .finish .none (inSession .finishing)),
        oneTile (onJob .preview (.preview ⟨1, 0, 0, 1024⟩) (inSession .finished))],
      s.powered = true ∧ s.engine.stop = .none ∧ s.engine.tilesDone < s.tileCount ∧ s.memoryWf = true ∧
        64 ≤ s.port.width) := by
  decide

theorem witness_TheOutputStreamIsLaidOutByRows :
    regionRead 0 [(outputIndex 6016 5000 800, 65535)] (outputIndex 6016 5000 800) < 65536 ∧
      5000 < 6016 ∧ 6015 < 6016 ∧ 0 < 4032 ∧ 4031 < 4032 := by
  decide

/-- A star taken into a LOST entry frees the neighbourhood of the star it overwrites, and one taken into a VACANT entry
frees none (R81, R83). -/
theorem test_heldAfter_gives_up_the_overwritten_star :
    heldAfter [(0, 0), (1000, 0)] (some (0, 0)) (5000, 0) = [(1000, 0), (5000, 0)] ∧
      heldAfter [(0, 0)] none (5000, 0) = [(0, 0), (5000, 0)] := by
  decide

end Sys2Proof.Tests
end

section
/-! PROOFS. The finished image (chapter 7): the values of R126 and R127, the pixels that a tile of a finish or of a
preview writes (R128, R134, R135), and the layout of the output stream (R129). -/

namespace Sys2Proof.Proofs.FinishedImage

open Sys2Proof.Machine

/-! ## Rounding and clamping (section 4.3) -/

/-- The rounding of a quotient that is not negative is half up. -/
theorem roundDiv_natCast (n d : Nat) : roundDiv n d = ((2 * n + d) / (2 * d) : Nat) := by
  simp [roundDiv]

theorem clampInt_eq_max_min (x : Int) {a b : Int} (hab : a ≤ b) : clampInt x a b = max a (min x b) := by
  unfold clampInt
  split_ifs <;> omega

/-- A value clamped to 16 bits is held as a number without losing anything. -/
theorem toNat_clampInt_word (x : Int) : ((clampInt x 0 65535).toNat : Int) = max 0 (min x 65535) := by
  rw [clampInt_eq_max_min x (by decide)]
  omega

/-! ## The values of a channel (R126, R127) -/

theorem planeValue_eq (n sum : Nat) : planeValue n sum = (8 * sum + n) / (2 * n) := by
  have fourfold : (4 * sum : Int) = (4 * sum : Nat) := by push_cast; rfl
  rw [planeValue, fourfold, roundDiv_natCast, Int.toNat_natCast]
  congr 1
  omega

/-- With nothing in the sky plane both values are the ground's own (R126). -/
theorem channelValues_noSky {m : Nat} (hm : 0 < m) (a b : Nat) :
    channelValues 0 a m b = (planeValue m b, planeValue m b) := by
  simp [channelValues, hm]

/-- The table of R126, row by row. -/
theorem channelValues_rows {n m : Nat} (hn : 0 < n) (hm : 0 < m) (a b : Nat) :
    channelValues n a m b = (planeValue n a, planeValue m b) ∧
      channelValues 0 a m b = (planeValue m b, planeValue m b) ∧
      channelValues n a 0 b = (planeValue n a, planeValue n a) ∧ channelValues 0 a 0 b = (4096, 4096) :=
  ⟨by simp [channelValues, hn, hm], channelValues_noSky hm a b, by simp [channelValues, hn], rfl⟩

/-- The weighted mean of a BLEND tile, rounded half up, since neither value is negative (R127). -/
theorem composite_blend {w : Nat} (hw : w ≤ 16) (sky ground : Nat) :
    composite ⟨.blend, w⟩ (sky, ground) = (w * sky + (16 - w) * ground + 8) / 16 := by
  have weighted : (w * sky + (16 - w : Int) * ground) = ((w * sky + (16 - w) * ground : Nat) : Int) := by
    push_cast [Nat.cast_sub hw]
    rfl
  have rounded := roundDiv_natCast (w * sky + (16 - w) * ground) 16
  simp only [composite, weighted]
  rw [show (16 : Int) = (16 : Nat) from rfl, rounded, Int.toNat_natCast]
  omega

/-- Where both values are alike the weight does not matter (R127). -/
theorem composite_blend_same {w : Nat} (hw : w ≤ 16) (v : Nat) : composite ⟨.blend, w⟩ (v, v) = v := by
  have whole : w * v + (16 - w) * v = 16 * v := by rw [← Nat.add_mul, Nat.add_sub_cancel' hw]
  rw [composite_blend hw, whole]
  omega

theorem composite_blend_ends (sky ground : Nat) :
    composite ⟨.blend, 16⟩ (sky, ground) = sky ∧ composite ⟨.blend, 0⟩ (sky, ground) = ground := by
  rw [composite_blend le_rfl, composite_blend (Nat.zero_le 16)]
  omega

theorem outputValue_eq (pedestal comp : Nat) :
    (outputValue pedestal comp : Int) = max 0 (min ((comp : Int) - 4096 + pedestal) 65535) :=
  toNat_clampInt_word _

/-- Each channel of a cell's composite is formed from that channel's sums in the two records (R126, R127). -/
theorem compositeAt_channel (p : Planes) (i j : Nat) {ch : Quad → Nat}
    (hch : ch ∈ [Quad.r, Quad.ga, Quad.gb, Quad.b]) :
    let sky := regionRead CellRecord.zero p.sky (cellIndex p.width i j)
    let ground := regionRead CellRecord.zero p.ground (cellIndex p.width i j)
    ch (p.compositeAt i j) =
      composite (cellTile p.width p.tiles i j) (channelValues sky.count (ch sky.sum) ground.count (ch ground.sum)) := by
  simp only [List.mem_cons, List.not_mem_nil, or_false] at hch
  obtain rfl | rfl | rfl | rfl := hch <;> rfl

/-! ## Places in a stream laid out by rows (R129, R135) -/

/-- Two places of rows of length `w` have one index only where they are one place. -/
theorem rowMajor_injective {w x y x' y' : Nat} (hx : x < w) (hx' : x' < w) (h : y * w + x = y' * w + x') :
    x = x' ∧ y = y' := by
  have column := congrArg (· % w) h
  have row := congrArg (· / w) h
  have hw : 0 < w := by omega
  simp only [Nat.mul_add_mod', Nat.mod_eq_of_lt hx, Nat.mod_eq_of_lt hx'] at column
  simp only [Nat.mul_comm _ w, Nat.mul_add_div hw, Nat.div_eq_of_lt hx, Nat.div_eq_of_lt hx'] at row
  exact ⟨column, row⟩

theorem outputIndex_injective {w x y x' y' : Nat} (hx : x < w) (hx' : x' < w)
    (h : outputIndex w x y = outputIndex w x' y') : x = x' ∧ y = y' :=
  rowMajor_injective hx hx' h

theorem previewIndex_injective {w u v u' v' : Nat} (hu : u < w / 8) (hu' : u' < w / 8)
    (h : previewIndex w u v = previewIndex w u' v') : u = u' ∧ v = v' :=
  rowMajor_injective hu hu' h

/-- A pixel of the frame lies within the stream's `w · h` pixels. -/
theorem outputIndex_lt {w h x y : Nat} (hx : x < w) (hy : y < h) : outputIndex w x y < w * h := by
  calc y * w + x < (y + 1) * w := by rw [Nat.succ_mul]; omega
    _ ≤ h * w := Nat.mul_le_mul_right w hy
    _ = w * h := Nat.mul_comm h w

/-- The two bytes of a 16-bit value of a stream, its low byte first. -/
theorem streamByte_pair (m : Region Nat) (k : Nat) (h : regionRead 0 m k < 65536) :
    (streamByte m (2 * k)).toNat + 256 * (streamByte m (2 * k + 1)).toNat = regionRead 0 m k := by
  have even : 2 * k / 2 = k ∧ 2 * k % 2 = 0 := by omega
  have odd : (2 * k + 1) / 2 = k ∧ (2 * k + 1) % 2 = 1 := by omega
  simp only [streamByte, even, odd, BitVec.toNat_ofNat, if_true, Nat.one_ne_zero, if_false]
  omega

/-- Settles O59: the layout by rows is injective, and each pair of bytes carries its value's low and high half. -/
theorem theOutputStreamIsLaidOutByRows : Obligations.TheOutputStreamIsLaidOutByRows := by
  refine ⟨fun s => rfl, fun m w x y => streamByte_pair m _, outputValue_le, ?_, by decide, by decide⟩
  intro w h x y x' y' hx hx' hy _
  exact ⟨outputIndex_lt hx hy, outputIndex_injective hx hx'⟩

/-! ## A list of writes to a region -/

/-- The writes of a list of indexes and values, made in order. -/
def writeAll (m : Region Nat) (ws : List (Nat × Nat)) : Region Nat :=
  ws.foldl (fun m e => regionWrite 0 m e.1 e.2) m

/-- A fold that makes a list of writes for each element makes all their writes in order. -/
theorem foldl_writeAll {γ : Type} (f : γ → List (Nat × Nat)) (l : List γ) (m : Region Nat) :
    l.foldl (fun m c => writeAll m (f c)) m = writeAll m (l.flatMap f) := by
  simp [writeAll, List.foldl_flatMap]

/-- An index that no write names keeps its value. -/
theorem regionRead_writeAll_of_forall_ne {ws : List (Nat × Nat)} {k : Nat} (h : ∀ e ∈ ws, e.1 ≠ k) (m : Region Nat) :
    regionRead 0 (writeAll m ws) k = regionRead 0 m k := by
  induction ws generalizing m with
  | nil => rfl
  | cons e ws ih =>
    obtain ⟨head, tail⟩ := List.forall_mem_cons.mp h
    calc regionRead 0 (writeAll (regionWrite 0 m e.1 e.2) ws) k
        = regionRead 0 (regionWrite 0 m e.1 e.2) k := ih tail _
      _ = regionRead 0 m k := regionRead_regionWrite_ne 0 m e.2 head.symm

/-- Writes that agree wherever they name one index leave each index they name at its value. -/
theorem regionRead_writeAll_of_mem {ws : List (Nat × Nat)} {k v : Nat} (agree : ∀ x, (k, x) ∈ ws → x = v)
    (hmem : (k, v) ∈ ws) {m : Region Nat} (hm : regionWf 0 m = true) : regionRead 0 (writeAll m ws) k = v := by
  induction ws generalizing m with
  | nil => cases hmem
  | cons e ws ih =>
    have hm' : regionWf 0 (regionWrite 0 m e.1 e.2) = true := regionWrite_wf _ _ hm
    by_cases later : (k, v) ∈ ws
    · exact ih (fun x hx => agree x (List.mem_cons_of_mem e hx)) later hm'
    · have here : e = (k, v) := ((List.mem_cons.mp hmem).resolve_right later).symm
      have last : ∀ e' ∈ ws, e'.1 ≠ k := by
        rintro ⟨_, x⟩ hx rfl
        exact later (agree x (List.mem_cons_of_mem e hx) ▸ hx)
      subst here
      calc regionRead 0 (writeAll (regionWrite 0 m k v) ws) k
          = regionRead 0 (regionWrite 0 m k v) k := regionRead_writeAll_of_forall_ne last _
        _ = v := by simp [regionRead_regionWrite k k v hm]

/-! ## A tile of a finish (R51, R128) -/

/-- The four places of a cell, each with the value of the channel that the Bayer phase puts there (R51). -/
def placedChannels (bayer : Bayer) (v : Quad) : List ((Nat × Nat) × Nat) :=
  let places := bayerPlaces bayer
  [(places.1, v.r), (places.2.1, v.ga), (places.2.2.1, v.gb), (places.2.2.2, v.b)]

/-- A place lies within its cell of 2 × 2 pixels. -/
theorem placedChannels_lt {bayer : Bayer} {v : Quad} {o : Nat × Nat} {x : Nat} (h : (o, x) ∈ placedChannels bayer v) :
    o.1 < 2 ∧ o.2 < 2 := by
  obtain ⟨dx, dy⟩ := o
  cases bayer <;> simp [placedChannels, bayerPlaces] at h <;> omega

/-- A place carries one channel. -/
theorem placedChannels_unique {bayer : Bayer} {v : Quad} {o : Nat × Nat} {x y : Nat}
    (hx : (o, x) ∈ placedChannels bayer v) (hy : (o, y) ∈ placedChannels bayer v) : x = y := by
  obtain ⟨dx, dy⟩ := o
  cases bayer <;> simp [placedChannels, bayerPlaces] at hx hy <;> omega

/-- The four output values of a cell, by their channels. -/
def outputQuad (p : Planes) (pedestal : Nat) (c : Nat × Nat) : Quad :=
  (p.compositeAt c.1 c.2).map (outputValue pedestal)

/-- The four writes that a cell of the finish makes. -/
def cellWrites (p : Planes) (pedestal : Nat) (c : Nat × Nat) : List (Nat × Nat) :=
  (placedChannels p.bayer (outputQuad p pedestal c)).map fun e =>
    (outputIndex p.width (2 * c.1 + e.1.1) (2 * c.2 + e.1.2), e.2)

theorem finishTile_eq_writeAll (p : Planes) (pedestal t : Nat) (out : Region Nat) :
    p.finishTile pedestal t out = writeAll out ((tileCells p.width t).flatMap (cellWrites p pedestal)) := by
  rw [← foldl_writeAll]
  rfl

/-- The cells of a tile lie within the frame's columns, whatever the tile's number. -/
theorem tileCells_column_lt {w t : Nat} (hw : 64 ≤ w) {c : Nat × Nat} (h : c ∈ tileCells w t) : 2 * c.1 + 1 < w := by
  have column : t % (w / 64) < w / 64 := Nat.mod_lt t (by omega)
  simp only [tileCells, List.mem_flatMap, List.mem_map, List.mem_range] at h
  obtain ⟨dj, _, di, hdi, rfl⟩ := h
  simp only
  omega

/-- Two cells of a tile share no pixel, so each pixel of a tile's cells ends with its own channel's output value. -/
theorem regionRead_finishTile_of_mem {p : Planes} {pedestal t : Nat} (hw : 64 ≤ p.width) {out : Region Nat}
    (hout : regionWf 0 out = true) {c : Nat × Nat} (hc : c ∈ tileCells p.width t) {o : Nat × Nat} {x : Nat}
    (ho : (o, x) ∈ placedChannels p.bayer (outputQuad p pedestal c)) :
    regionRead 0 (p.finishTile pedestal t out) (outputIndex p.width (2 * c.1 + o.1) (2 * c.2 + o.2)) = x := by
  rw [finishTile_eq_writeAll]
  refine regionRead_writeAll_of_mem ?_ ?_ hout
  · intro y hy
    simp only [cellWrites, List.mem_flatMap, List.mem_map, Prod.mk.injEq] at hy
    obtain ⟨c', hc', ⟨o', _⟩, ho', hindex, rfl⟩ := hy
    have hlt := placedChannels_lt ho
    have hlt' := placedChannels_lt ho'
    have hcol := tileCells_column_lt hw hc
    have hcol' := tileCells_column_lt hw hc'
    obtain ⟨hx, hy⟩ := outputIndex_injective (by simp only; omega) (by omega) hindex
    simp only at hx hy
    have sameCell : c' = c := Prod.ext (by omega) (by omega)
    have samePlace : o' = o := Prod.ext (by omega) (by omega)
    subst sameCell samePlace
    exact placedChannels_unique ho' ho
  · exact List.mem_flatMap.mpr ⟨c, hc, List.mem_map.mpr ⟨_, ho, rfl⟩⟩

/-- The four pixels of a cell end with the output values of R, Ga, Gb and B at their places of R51. -/
theorem regionRead_finishTile_places {p : Planes} {pedestal t : Nat} (hw : 64 ≤ p.width) {out : Region Nat}
    (hout : regionWf 0 out = true) {c : Nat × Nat} (hc : c ∈ tileCells p.width t) :
    let v := outputQuad p pedestal c
    let pixel := fun (o : Nat × Nat) => regionRead 0 (p.finishTile pedestal t out)
      (outputIndex p.width (2 * c.1 + o.1) (2 * c.2 + o.2))
    let places := bayerPlaces p.bayer
    pixel places.1 = v.r ∧ pixel places.2.1 = v.ga ∧ pixel places.2.2.1 = v.gb ∧ pixel places.2.2.2 = v.b := by
  have placed : ∀ e ∈ placedChannels p.bayer (outputQuad p pedestal c), regionRead 0 (p.finishTile pedestal t out)
      (outputIndex p.width (2 * c.1 + e.1.1) (2 * c.2 + e.1.2)) = e.2 :=
    fun e he => regionRead_finishTile_of_mem hw hout hc he
  simpa only [placedChannels, List.forall_mem_cons, List.not_mem_nil, false_imp_iff, implies_true, and_true]
    using placed

/-- A tile of a finish writes to no pixel outside its cells (R128). -/
theorem regionRead_finishTile_frame {p : Planes} {pedestal t k : Nat} (out : Region Nat)
    (h : ∀ c ∈ tileCells p.width t, ∀ dx dy : Nat, dx < 2 → dy < 2 →
      outputIndex p.width (2 * c.1 + dx) (2 * c.2 + dy) ≠ k) :
    regionRead 0 (p.finishTile pedestal t out) k = regionRead 0 out k := by
  rw [finishTile_eq_writeAll]
  refine regionRead_writeAll_of_forall_ne (fun e he => ?_) out
  simp only [cellWrites, List.mem_flatMap, List.mem_map] at he
  obtain ⟨c, hc, ⟨o, _⟩, ho, rfl⟩ := he
  exact h c hc _ _ (placedChannels_lt ho).1 (placedChannels_lt ho).2

/-! ## A tile of a preview (R134, R135) -/

/-- A preview pixel's value is the mean of its 64 terms, clamped once at the end (R135). -/
theorem previewValue_eq (p : Planes) (pedestal u v : Nat) :
    let terms : List Int := (List.range 4).flatMap fun dj => (List.range 4).flatMap fun di =>
      [Quad.r, Quad.ga, Quad.gb, Quad.b].map fun ch =>
        (ch (p.compositeAt (4 * u + di) (4 * v + dj)) : Int) - 4096 + pedestal
    (p.previewValue pedestal u v : Int) = max 0 (min (roundDiv terms.sum 64) 65535) := by
  intro terms
  have cellSum : ∀ q : Quad, (q.total : Int) + 4 * ((pedestal : Int) - 4096) =
      ([Quad.r, Quad.ga, Quad.gb, Quad.b].map fun ch => (ch q : Int) - 4096 + pedestal).sum := by
    intro q
    simp only [Quad.total, List.map_cons, List.map_nil, List.sum_cons, List.sum_nil]
    push_cast
    ring
  have sums : ((((List.range 4).flatMap fun dj => (List.range 4).map fun di => (4 * u + di, 4 * v + dj)).map fun c =>
      ((p.compositeAt c.1 c.2).total : Int) + 4 * ((pedestal : Int) - 4096)).sum) = terms.sum := by
    simp only [terms, cellSum, List.flatMap_def, List.map_flatten, List.sum_flatten, List.map_map, Function.comp_def]
  rw [← sums]
  exact toNat_clampInt_word _

/-- The 8 × 8 preview pixels of a tile (R134). -/
def tilePreviewPixels (w t : Nat) : List (Nat × Nat) :=
  (List.range 8).flatMap fun dv => (List.range 8).map fun du => (8 * (t % (w / 64)) + du, 8 * (t / (w / 64)) + dv)

theorem mem_tilePreviewPixels {w t : Nat} {c : Nat × Nat} : c ∈ tilePreviewPixels w t ↔
    ∃ du dv, du < 8 ∧ dv < 8 ∧ c = (8 * (t % (w / 64)) + du, 8 * (t / (w / 64)) + dv) := by
  simp only [tilePreviewPixels, List.mem_flatMap, List.mem_map, List.mem_range]
  constructor
  · rintro ⟨dv, hdv, du, hdu, rfl⟩
    exact ⟨du, dv, hdu, hdv, rfl⟩
  · rintro ⟨du, dv, hdu, hdv, rfl⟩
    exact ⟨dv, hdv, du, hdu, rfl⟩

/-- The preview pixels of a tile lie within the preview's columns, whatever the tile's number. -/
theorem tilePreviewPixels_column_lt {w t : Nat} (hw : 64 ≤ w) {c : Nat × Nat} (h : c ∈ tilePreviewPixels w t) :
    c.1 < w / 8 := by
  have column : t % (w / 64) < w / 64 := Nat.mod_lt t (by omega)
  obtain ⟨du, dv, hdu, _, rfl⟩ := mem_tilePreviewPixels.mp h
  simp only
  omega

/-- The write that a preview pixel makes. -/
def previewWrite (p : Planes) (pedestal : Nat) (c : Nat × Nat) : Nat × Nat :=
  (previewIndex p.width c.1 c.2, p.previewValue pedestal c.1 c.2)

theorem previewTile_eq_writeAll (p : Planes) (pedestal t : Nat) (out : Region Nat) :
    p.previewTile pedestal t out = writeAll out ((tilePreviewPixels p.width t).map (previewWrite p pedestal)) := by
  rw [writeAll, List.foldl_map]
  rfl

/-- Each preview pixel of a tile ends with its own value. -/
theorem regionRead_previewTile_of_mem {p : Planes} {pedestal t : Nat} (hw : 64 ≤ p.width) {out : Region Nat}
    (hout : regionWf 0 out = true) {c : Nat × Nat} (hc : c ∈ tilePreviewPixels p.width t) :
    regionRead 0 (p.previewTile pedestal t out) (previewIndex p.width c.1 c.2) = p.previewValue pedestal c.1 c.2 := by
  rw [previewTile_eq_writeAll]
  refine regionRead_writeAll_of_mem ?_ (List.mem_map.mpr ⟨c, hc, rfl⟩) hout
  intro x hx
  simp only [previewWrite, List.mem_map, Prod.mk.injEq] at hx
  obtain ⟨c', hc', hindex, rfl⟩ := hx
  obtain ⟨hu, hv⟩ :=
    previewIndex_injective (tilePreviewPixels_column_lt hw hc') (tilePreviewPixels_column_lt hw hc) hindex
  rw [hu, hv]

/-- A tile of a preview writes to no other preview pixel (R134). -/
theorem regionRead_previewTile_frame {p : Planes} {pedestal t k : Nat} (out : Region Nat)
    (h : ∀ c ∈ tilePreviewPixels p.width t, previewIndex p.width c.1 c.2 ≠ k) :
    regionRead 0 (p.previewTile pedestal t out) k = regionRead 0 out k := by
  rw [previewTile_eq_writeAll]
  refine regionRead_writeAll_of_forall_ne (fun e he => ?_) out
  obtain ⟨c, hc, rfl⟩ := List.mem_map.mp he
  exact h c hc

/-! ## The completion of a tile (R108, R114) -/

/-- The state in which the engine has been granted its accesses (R108). -/
def granted (s : State) : State := s.onEngine fun e => { e with lastGranted := .engine }

/-- A powered engine with a tile left of its job and no stop request is granted its accesses, and the tile completes. -/
theorem exec_engineTileComplete_of_powered {s : State} (hpow : s.powered = true) (hstop : s.engine.stop = .none)
    (htile : s.engine.tilesDone < s.tileCount) (hjob : s.engine.job ≠ .none) :
    exec .engineTileComplete s = .next (completeTile (granted s)) := by
  have onTile : s.onTile = true := by simp [State.onTile, State.tilesOver, hpow, hstop, hjob, htile]
  have served : whenServed .engine completeTile s = completeTile (granted s) :=
    whenServed_engine _ (by simp [State.memoryAwake, hpow])
  have meaning : exec .engineTileComplete s = execEngineTileComplete s := rfl
  rw [meaning, execEngineTileComplete, served]
  simp [onTile, hstop]

/-- With no stop request a tile that completes is worked and counted, and no more (R121). -/
theorem completeTile_of_noStop {s : State} (h : (tileWork s).engine.stop = .none) :
    completeTile s = countTile (tileWork s) := by
  have counted : (countTile (tileWork s)).engine.stop = .none := h
  simp [completeTile, counted]

/-- The tiles of a job that is no measurement are counted (R110, R124). -/
theorem countTile_of_not_measuring {s : State} (h : s.measuring = false) :
    countTile s = s.onEngine fun e => { e with tilesDone := e.tilesDone + 1 } := by
  simp [countTile, h]

theorem tileWork_finish {s : State} (hjob : s.engine.job = .finish) :
    tileWork s = finishOneTile s.engine.tilesDone s := by
  simp [tileWork, hjob]

theorem tileWork_preview {s : State} {note : PreviewNote} (hjob : s.engine.job = .preview)
    (hwork : s.engine.work = .preview note) : tileWork s = previewOneTile note.pedestal s.engine.tilesDone s := by
  simp [tileWork, hjob, hwork]

/-- A tile of a finish is written to the output region and counted, and nothing else changes (R128). -/
theorem exec_engineTileComplete_finish {s : State} (hpow : s.powered = true) (hstop : s.engine.stop = .none)
    (htile : s.engine.tilesDone < s.tileCount) (hjob : s.engine.job = .finish) (hwork : s.engine.work = .none) :
    ∃ t, exec .engineTileComplete s = .next t ∧
      t = { s with
        engine := { s.engine with tilesDone := s.engine.tilesDone + 1, lastGranted := .engine }
        dram := { s.dram with output := t.dram.output } } ∧
      t.dram.output = s.planes.finishTile s.results.pedestal s.engine.tilesDone s.dram.output := by
  have work : tileWork (granted s) = finishOneTile s.engine.tilesDone (granted s) := tileWork_finish hjob
  have step := exec_engineTileComplete_of_powered hpow hstop htile (by simp [hjob])
  rw [completeTile_of_noStop (by rw [work]; exact hstop), work,
    countTile_of_not_measuring (by simp [State.measuring, finishOneTile, granted, hwork])] at step
  exact ⟨_, step, by dsimp only [finishOneTile, granted, State.onEngine, State.onDram],
    by dsimp only [finishOneTile, granted, State.onEngine, State.onDram, State.planes]⟩

/-- A tile of a preview is written to the preview buffer and counted, and nothing else changes (R134). -/
theorem exec_engineTileComplete_preview {s : State} {note : PreviewNote} (hpow : s.powered = true)
    (hstop : s.engine.stop = .none) (htile : s.engine.tilesDone < s.tileCount) (hjob : s.engine.job = .preview)
    (hwork : s.engine.work = .preview note) :
    ∃ t, exec .engineTileComplete s = .next t ∧
      t = { s with
        engine := { s.engine with tilesDone := s.engine.tilesDone + 1, lastGranted := .engine }
        dram := { s.dram with preview := t.dram.preview } } ∧
      t.dram.preview = s.planes.previewTile note.pedestal s.engine.tilesDone s.dram.preview := by
  have work : tileWork (granted s) = previewOneTile note.pedestal s.engine.tilesDone (granted s) :=
    tileWork_preview hjob hwork
  have step := exec_engineTileComplete_of_powered hpow hstop htile (by simp [hjob])
  rw [completeTile_of_noStop (by rw [work]; exact hstop), work,
    countTile_of_not_measuring (by simp [State.measuring, previewOneTile, granted, hwork])] at step
  exact ⟨_, step, by dsimp only [previewOneTile, granted, State.onEngine, State.onDram],
    by dsimp only [previewOneTile, granted, State.onEngine, State.onDram, State.planes]⟩

/-- A memory in its canonical form holds both streams in theirs. -/
theorem memoryWf_streams {s : State} (h : s.memoryWf = true) :
    regionWf 0 s.dram.output = true ∧ regionWf 0 s.dram.preview = true := by
  simp only [State.memoryWf, Dram.wf, Bool.and_eq_true] at h
  obtain ⟨⟨⟨_, output⟩, preview⟩, _⟩ := h
  exact ⟨output, preview⟩

/-- Settles O58: the values by the tables of R126 and R127, and the tiles by the lists of writes they make. -/
theorem compositesFollowTheTileClass : Obligations.CompositesFollowTheTileClass := by
  refine ⟨fun w sky ground => ⟨rfl, rfl⟩, fun w sky ground hw => composite_blend hw sky ground, composite_blend_ends,
    fun w v hw => composite_blend_same hw v, ?_, outputValue_eq, ?_, fun p i j => ?_, ?_⟩
  · intro w groundCount groundSum skySum hw hg
    rw [channelValues_noSky hg, composite_blend_same hw]
  · exact fun n m a b hn hm => ⟨planeValue_eq n a, channelValues_rows hn hm a b⟩
  · exact fun ch hch => compositeAt_channel p i j hch
  · intro s hpow hstop htile hmem hw
    obtain ⟨houtput, hpreview⟩ := memoryWf_streams hmem
    refine ⟨fun hjob hwork => ?_, fun note hjob hwork => ?_⟩
    · obtain ⟨t, step, frame, written⟩ := exec_engineTileComplete_finish hpow hstop htile hjob hwork
      refine ⟨t, step, frame, fun c hc => ?_, fun k hk => ?_⟩ <;> rw [written]
      · exact regionRead_finishTile_places (p := s.planes) hw houtput hc
      · exact regionRead_finishTile_frame (p := s.planes) s.dram.output hk
    · obtain ⟨t, step, frame, written⟩ := exec_engineTileComplete_preview hpow hstop htile hjob hwork
      refine ⟨t, step, frame, fun du dv hdu hdv => ?_, fun k hk => ?_⟩ <;> rw [written]
      · have pixel := regionRead_previewTile_of_mem (p := s.planes) (pedestal := note.pedestal)
          (t := s.engine.tilesDone) hw hpreview (mem_tilePreviewPixels.mpr ⟨du, dv, hdu, hdv, rfl⟩)
        exact (congrArg Nat.cast pixel).trans (previewValue_eq s.planes note.pedestal _ _)
      · refine regionRead_previewTile_frame (p := s.planes) s.dram.preview fun c hc => ?_
        obtain ⟨du, dv, hdu, hdv, rfl⟩ := mem_tilePreviewPixels.mp hc
        exact hk du dv hdu hdv

end Sys2Proof.Proofs.FinishedImage
end

section
/-! PROOFS. The events of a link: the lead event of R161, which follows the link's group order. -/

namespace Sys2Proof.Proofs.LinkEvents

open Sys2Proof.Machine Sys2Proof.Safety

/-! ## Groups and their numbers (R159) -/

/-- A group lists its events lowest first (R159). -/
theorem groupNumbers_pairwise_lt (g : EventGroup) : (groupNumbers g).Pairwise (· < ·) := by cases g <;> decide

/-- The four groups hold every event's number between them: bit 15 alone stands for no event (R159, R179). -/
theorem exists_mem_groupNumbers {n : Nat} (h : n < 15) : ∃ g, n ∈ groupNumbers g := by
  have placed : ∀ n < 15, ∃ g ∈ [EventGroup.session, .subs, .guidance, .power], n ∈ groupNumbers g := by decide
  obtain ⟨g, _, hn⟩ := placed n h
  exact ⟨g, hn⟩

/-- A group order that repeats none of its four groups names every group (R165). -/
theorem mem_of_length_of_nodup {order : List EventGroup} (hlength : order.length = 4) (hnodup : order.Nodup)
    (g : EventGroup) : g ∈ order := by
  have all : ∀ h : EventGroup, h ∈ [EventGroup.session, .subs, .guidance, .power] := by
    intro h
    cases h <;> decide
  have perm := (hnodup.subperm fun h _ => all h).perm_of_length_le hlength.ge
  exact perm.mem_iff.mpr (all g)

/-! ## The live events of a link (R160) -/

/-- An event is live exactly when it is both pending and enabled. -/
theorem live_getLsbD_iff (l : LinkState) (n : Nat) :
    l.live.getLsbD n = true ↔ l.pendingSet.getLsbD n = true ∧ l.enableSet.getLsbD n = true := by
  rw [LinkState.live, BitVec.getLsbD_and, Bool.and_eq_true]

/-- Every live event of a well-formed link has a number below 15 (R179). -/
theorem lt_of_live {l : LinkState} (hl : LinkRight l) {n : Nat} (h : l.live.getLsbD n = true) : n < 15 := by
  obtain ⟨noPending, _⟩ := hl
  have width : n < 16 := BitVec.lt_of_getLsbD h
  have notLast : n ≠ 15 := by
    rintro rfl
    exact absurd ((live_getLsbD_iff l 15).mp h).1 (Bool.eq_false_iff.mp noPending)
  omega

/-! ## The lead event (R161) -/

/-- In an increasing list the first element with a property is the least one. -/
theorem find?_eq_some_iff_least {p : Nat → Bool} {xs : List Nat} (hxs : xs.Pairwise (· < ·)) {n : Nat} :
    xs.find? p = some n ↔ n ∈ xs ∧ p n = true ∧ ∀ m ∈ xs, m < n → p m = false := by
  rw [List.find?_eq_some_iff_append]
  constructor
  · rintro ⟨hp, before, after, rfl, dead⟩
    obtain ⟨_, tail, _⟩ := List.pairwise_append.mp hxs
    obtain ⟨above, _⟩ := List.pairwise_cons.mp tail
    refine ⟨List.mem_append_cons_self, hp, fun m hm hlt => ?_⟩
    obtain hm | hm := List.mem_append.mp hm
    · simpa using dead m hm
    · obtain rfl | hm := List.mem_cons.mp hm
      · exact absurd hlt (lt_irrefl m)
      · exact absurd hlt (above m hm).not_gt
  · rintro ⟨hn, hp, least⟩
    obtain ⟨before, after, rfl⟩ := List.append_of_mem hn
    obtain ⟨_, _, below⟩ := List.pairwise_append.mp hxs
    refine ⟨hp, before, after, rfl, fun m hm => ?_⟩
    simp [least m (List.mem_append_left _ hm) (below m hm n List.mem_cons_self)]

/-- The lead event is looked for group by group, in the group order. -/
theorem lead_eq_findSome? (l : LinkState) :
    l.lead = l.order.findSome? fun g => (groupNumbers g).find? fun n => l.live.getLsbD n :=
  List.find?_flatMap

/-- The first group with a live event gives its lowest-numbered one. -/
theorem lead_eq_some_iff (l : LinkState) (n : Nat) : l.lead = some n ↔
    ∃ before g after, l.order = before ++ g :: after ∧ n ∈ groupNumbers g ∧ l.live.getLsbD n = true ∧
      (∀ h ∈ before, ∀ m ∈ groupNumbers h, l.live.getLsbD m = false) ∧
      (∀ m ∈ groupNumbers g, m < n → l.live.getLsbD m = false) := by
  rw [lead_eq_findSome?, List.findSome?_eq_some_iff]
  simp only [find?_eq_some_iff_least (groupNumbers_pairwise_lt _), List.find?_eq_none, Bool.not_eq_true]
  constructor
  · rintro ⟨before, g, after, order, ⟨hn, live, least⟩, dead⟩
    exact ⟨before, g, after, order, hn, live, dead, least⟩
  · rintro ⟨before, g, after, order, hn, live, dead, least⟩
    exact ⟨before, g, after, order, ⟨hn, live, least⟩, dead⟩

/-- There is a lead event exactly when a group of the order holds a live event. -/
theorem lead_isSome_iff (l : LinkState) :
    l.lead.isSome = true ↔ ∃ g ∈ l.order, ∃ n ∈ groupNumbers g, l.live.getLsbD n = true := by
  rw [lead_eq_findSome?]
  simp only [List.findSome?_isSome_iff, List.find?_isSome]

/-- A well-formed link has a lead event exactly while its attention line is asserted: its order names every group, so no
live event is passed over (R160, R161, R165). -/
theorem lead_isSome_iff_attention {l : LinkState} (hl : LinkRight l) : l.lead.isSome = true ↔ l.attention = true := by
  have ⟨_, _, hlength, hnodup, hattention⟩ := hl
  simp only [lead_isSome_iff, hattention, ← live_getLsbD_iff]
  constructor
  · rintro ⟨_, _, n, _, live⟩
    exact ⟨n, live⟩
  · rintro ⟨n, live⟩
    obtain ⟨g, hn⟩ := exists_mem_groupNumbers (lt_of_live hl live)
    exact ⟨g, mem_of_length_of_nodup hlength hnodup g, n, hn, live⟩

/-- Settles O13: the search of the order is a search of its groups in turn, and each group lists its events in
increasing order. -/
theorem leadEventFollowsTheGroupOrder : Obligations.LeadEventFollowsTheGroupOrder := by
  refine ⟨lead_eq_some_iff, fun l hl => lead_isSome_iff_attention hl, ?_⟩
  rintro _ rfl
  exact ⟨by decide, by decide⟩

end Sys2Proof.Proofs.LinkEvents
end

section
/-! PROOFS. The laws that every step keeps. `KeepsLaws s t` says that each law which `s` has `t` has too. It is closed
under every update of the state that the meanings are made of, so each meaning keeps the laws because its parts do. -/

namespace Sys2Proof.Proofs.StepLaws

-- The declarations are elaborated one after another, which keeps the check of the whole text within its memory.
set_option Elab.async false

open Sys2Proof.Machine Sys2Proof.Safety

/-! ## The laws, component by component -/

/-- The law of the Session Controller's items (R1, R9). -/
def SessionLaw (x : Session) : Prop :=
  (x.pauseCause.isSome = true ↔ x.state = .paused) ∧ (x.state = .integrating → x.referenceSet = true) ∧
    x.attempts ≤ 255 ∧ x.movedCount ≤ 255 ∧ x.geometryCount ≤ 255 ∧ x.runTime < 2 ^ 32

/-- The plans and the hold reserve in their ranges (R19, R24). -/
def PlansLaw (x : Session) : Prop :=
  (∀ i : Fin 4, PlanInRange x.plans[i]) ∧ 5 ≤ x.holdReserve ∧ x.holdReserve ≤ 120

/-- Every plan snapshot in its range (R19). -/
def SnapshotsLaw (r : Ring) : Prop := ∀ i : Fin 6, PlanInRange r.desc[i].snapshot

/-- The geometry and the lane count in their ranges (R48, R49). -/
def GeometryLaw (p : SensorPort) : Prop :=
  1024 ≤ p.width ∧ p.width ≤ 6144 ∧ p.width % 64 = 0 ∧ 768 ≤ p.height ∧ p.height ≤ 4096 ∧ p.height % 64 = 0 ∧
    (p.lanes = 2 ∨ p.lanes = 4)

/-- The blend weights in their range (R103). -/
def WeightsLaw (m : Region TileEntry) : Prop := ∀ e ∈ m, e.2.weight ≤ 16

/-- The power law, of the Power Controller's items and the level of PF_WARN (R138, R141, R150, R151). -/
def PowerLaw (p : Power) (pfWarn : Bool) : Prop :=
  (p.reserveTimer.isSome = true ↔ p.state = .hold) ∧ (p.state = .hold → pfWarn = true) ∧
    (p.wakePending = true → p.state = .doze ∧ p.changing = true) ∧
    (p.changing = false →
      (p.state = .active → p.memory = .active ∧ p.engineOn = true) ∧
      (p.state = .doze → p.memory = .selfRefresh ∧ p.engineOn = false) ∧
      (p.state = .hold → p.memory = .selfRefresh ∧ p.engineOn = false) ∧
      (p.state = .standby → p.memory = .off ∧ p.engineOn = false))

/-- Every cell record of a plane has its relations (R107, R118). -/
def PlaneLaw (m : Region CellRecord) : Prop := ∀ e ∈ m, RecordRight e.2

/-- The law of the Dark Library's items (R92 to R94). -/
def DarksLaw (d : DarkLibrary) : Prop :=
  (∀ i j : Fin 4, d.slots[i].state ≠ .empty → d.slots[j].state ≠ .empty → d.slots[i].band = d.slots[j].band → i = j) ∧
    (∀ i : Fin 4, d.slots[i].count ≤ 64) ∧
    (∀ i : Fin 4, d.mergeTarget = some i → d.slots[i].state ≠ .empty ∧ d.slots[i].count < 64) ∧
    d.useOrder.Nodup

theorem sessionRight_iff (s : State) : SessionRight s ↔ SessionLaw s.session := .rfl
theorem powerRight_iff (s : State) : PowerRight s ↔ PowerLaw s.power s.lines.pfWarn := .rfl
theorem planesRight_iff (s : State) : PlanesRight s ↔ PlaneLaw s.dram.sky ∧ PlaneLaw s.dram.ground := .rfl
theorem darkLibraryRight_iff (s : State) : DarkLibraryRight s ↔ DarksLaw s.darks := .rfl

theorem settingsRight_iff (s : State) : SettingsRight s ↔
    PlansLaw s.session ∧ SnapshotsLaw s.ring ∧ GeometryLaw s.port ∧ WeightsLaw s.tileMap := by
  simp only [SettingsRight, PlansLaw, SnapshotsLaw, GeometryLaw, WeightsLaw, and_assoc]
  tauto

theorem memoryWf_iff (s : State) :
    s.memoryWf = true ↔ s.dram.wf = true ∧ regionWf TileEntry.default s.tileMap = true := by
  simp [State.memoryWf]

/-- Each law that `s` has `t` has too. -/
structure KeepsLaws (s t : State) : Prop where
  memory : s.memoryWf = true → t.memoryWf = true
  events : EventsRight s → EventsRight t
  session : SessionRight s → SessionRight t
  power : PowerRight s → PowerRight t
  settings : SettingsRight s → SettingsRight t
  planes : PlanesRight s → PlanesRight t
  darks : DarkLibraryRight s → DarkLibraryRight t

namespace KeepsLaws

variable {s t u : State}

theorem refl (s : State) : KeepsLaws s s := ⟨id, id, id, id, id, id, id⟩

theorem trans (h : KeepsLaws s t) (g : KeepsLaws t u) : KeepsLaws s u :=
  ⟨g.memory ∘ h.memory, g.events ∘ h.events, g.session ∘ h.session, g.power ∘ h.power, g.settings ∘ h.settings,
    g.planes ∘ h.planes, g.darks ∘ h.darks⟩

/-! ## Updates of one component -/

theorem onSeq (h : KeepsLaws s t) (f : Sequencer → Sequencer) : KeepsLaws s (t.onSeq f) :=
  ⟨h.memory, h.events, h.session, h.power, h.settings, h.planes, h.darks⟩

theorem onGuidance (h : KeepsLaws s t) (f : Guidance → Guidance) : KeepsLaws s (t.onGuidance f) :=
  ⟨h.memory, h.events, h.session, h.power, h.settings, h.planes, h.darks⟩

theorem onEngine (h : KeepsLaws s t) (f : Engine → Engine) : KeepsLaws s (t.onEngine f) :=
  ⟨h.memory, h.events, h.session, h.power, h.settings, h.planes, h.darks⟩

theorem onResults (h : KeepsLaws s t) (f : Results → Results) : KeepsLaws s (t.onResults f) :=
  ⟨h.memory, h.events, h.session, h.power, h.settings, h.planes, h.darks⟩

theorem onFree (h : KeepsLaws s t) (f : Nat → Nat) : KeepsLaws s (t.onFree f) :=
  ⟨h.memory, h.events, h.session, h.power, h.settings, h.planes, h.darks⟩

theorem onPending (h : KeepsLaws s t) (f : List Instr → List Instr) : KeepsLaws s (t.onPending f) :=
  ⟨h.memory, h.events, h.session, h.power, h.settings, h.planes, h.darks⟩

theorem onSession (h : KeepsLaws s t) (f : Session → Session)
    (keepsSession : SessionLaw t.session → SessionLaw (f t.session))
    (keepsPlans : PlansLaw t.session → PlansLaw (f t.session)) : KeepsLaws s (t.onSession f) := by
  refine h.trans ⟨id, id, keepsSession, id, fun g => ?_, id, id⟩
  rw [settingsRight_iff] at g ⊢
  exact ⟨keepsPlans g.1, g.2⟩

theorem onRing (h : KeepsLaws s t) (f : Ring → Ring)
    (keeps : PlansLaw t.session → SnapshotsLaw t.ring → SnapshotsLaw (f t.ring)) : KeepsLaws s (t.onRing f) := by
  refine h.trans ⟨id, id, id, id, fun g => ?_, id, id⟩
  rw [settingsRight_iff] at g ⊢
  exact ⟨g.1, keeps g.1 g.2.1, g.2.2⟩

/-- A change of one descriptor that leaves its plan snapshot alone. -/
theorem onDesc (h : KeepsLaws s t) (i : Fin 6) (f : Descriptor → Descriptor)
    (sameSnapshot : ∀ d, (f d).snapshot = d.snapshot := by exact fun _ => rfl) : KeepsLaws s (t.onDesc i f) := by
  refine h.onRing _ fun _ g j => ?_
  by_cases hij : i = j
  · subst hij
    simpa [sameSnapshot] using g i
  · have : i.val ≠ j.val := fun e => hij (Fin.ext e)
    simpa [this] using g j

theorem onPort (h : KeepsLaws s t) (f : SensorPort → SensorPort)
    (keeps : GeometryLaw t.port → GeometryLaw (f t.port) := by exact id) : KeepsLaws s (t.onPort f) := by
  refine h.trans ⟨id, id, id, id, fun g => ?_, id, id⟩
  rw [settingsRight_iff] at g ⊢
  exact ⟨g.1, g.2.1, keeps g.2.2.1, g.2.2.2⟩

theorem onTileMap (h : KeepsLaws s t) (f : Region TileEntry → Region TileEntry)
    (keepsForm : regionWf TileEntry.default t.tileMap = true → regionWf TileEntry.default (f t.tileMap) = true)
    (keepsWeights : WeightsLaw t.tileMap → WeightsLaw (f t.tileMap)) : KeepsLaws s (t.onTileMap f) := by
  refine h.trans ⟨fun g => ?_, id, id, id, fun g => ?_, id, id⟩
  · rw [memoryWf_iff] at g ⊢
    exact ⟨g.1, keepsForm g.2⟩
  · rw [settingsRight_iff] at g ⊢
    exact ⟨g.1, g.2.1, g.2.2.1, keepsWeights g.2.2.2⟩

theorem onDram (h : KeepsLaws s t) (f : Dram → Dram) (keepsForm : t.dram.wf = true → (f t.dram).wf = true)
    (keepsSky : PlaneLaw t.dram.sky → PlaneLaw (f t.dram).sky := by simp)
    (keepsGround : PlaneLaw t.dram.ground → PlaneLaw (f t.dram).ground := by simp) :
    KeepsLaws s (t.onDram f) := by
  refine h.trans ⟨fun g => ?_, id, id, id, id, fun g => ⟨keepsSky g.1, keepsGround g.2⟩, id⟩
  rw [memoryWf_iff] at g ⊢
  exact ⟨keepsForm g.1, g.2⟩

theorem onDarks (h : KeepsLaws s t) (f : DarkLibrary → DarkLibrary)
    (keeps : DarksLaw t.darks → DarksLaw (f t.darks)) : KeepsLaws s (t.onDarks f) :=
  h.trans ⟨id, id, id, id, id, id, keeps⟩

/-- A change of the lines that leaves PF_WARN alone. -/
theorem onLines (h : KeepsLaws s t) (f : Lines → Lines)
    (samePfWarn : (f t.lines).pfWarn = t.lines.pfWarn := by exact rfl) : KeepsLaws s (t.onLines f) := by
  refine h.trans ⟨id, id, id, fun g => ?_, id, id, id⟩
  rw [powerRight_iff] at g ⊢
  exact samePfWarn ▸ g

theorem onPower (h : KeepsLaws s t) (f : Power → Power)
    (keeps : PowerLaw t.power t.lines.pfWarn → PowerLaw (f t.power) t.lines.pfWarn) : KeepsLaws s (t.onPower f) :=
  h.trans ⟨id, id, id, keeps, id, id, id⟩

/-- A change of one link that keeps its events right. -/
theorem onLink (h : KeepsLaws s t) (l : Link) (f : LinkState → LinkState) (keeps : ∀ x, LinkRight x → LinkRight (f x)) :
    KeepsLaws s (t.onLink l f) := by
  cases l
  · exact h.trans ⟨id, fun g => ⟨keeps _ g.1, g.2⟩, id, id, id, id, id⟩
  · exact h.trans ⟨id, fun g => ⟨g.1, keeps _ g.2⟩, id, id, id, id, id⟩

end KeepsLaws

/-! ## Events (section 9.3) -/

/-- The attention line has its level exactly when an enabled event is pending (R160). -/
theorem attentionLevel_iff (l : LinkState) :
    l.attentionLevel = true ↔ ∃ n : Nat, l.pendingSet.getLsbD n = true ∧ l.enableSet.getLsbD n = true := by
  have zero_iff : l.live = 0#16 ↔ ∀ n : Nat, ¬(l.pendingSet.getLsbD n = true ∧ l.enableSet.getLsbD n = true) := by
    refine ⟨fun h n g => ?_, fun h => BitVec.eq_of_getLsbD_eq fun n _ => ?_⟩
    · have : l.live.getLsbD n = true := by simp [LinkState.live, g.1, g.2]
      simp [h] at this
    · have := h n
      cases hp : l.pendingSet.getLsbD n <;> simp_all [LinkState.live]
  simp only [LinkState.attentionLevel, bne_iff_ne, ne_eq, zero_iff]
  push Not
  rfl

/-- A link judged anew is right when its sets have no bit 15 and its order names every group once (R160). -/
theorem linkRight_judged {l : LinkState} (hp : l.pendingSet.getLsbD 15 = false) (he : l.enableSet.getLsbD 15 = false)
    (hl : l.order.length = 4) (ho : l.order.Nodup) : LinkRight l.judged :=
  ⟨hp, he, hl, ho, attentionLevel_iff l⟩

theorem linkRight_raised (e : Event) {l : LinkState} (h : LinkRight l) : LinkRight (l.raised e) := by
  obtain ⟨hp, he, hl, ho, -⟩ := h
  exact linkRight_judged (by rw [BitVec.getLsbD_or, hp, eventBit_fifteen]; rfl) he hl ho

theorem linkRight_acknowledged (events : BitVec 16) {l : LinkState} (h : LinkRight l) :
    LinkRight (l.acknowledged events) := by
  obtain ⟨hp, he, hl, ho, -⟩ := h
  exact linkRight_judged (by rw [BitVec.getLsbD_and, hp]; rfl) he hl ho

theorem linkRight_enabled {events : BitVec 16} (hb : events.getLsbD 15 = false) {l : LinkState} (h : LinkRight l) :
    LinkRight (l.enabled events) := by
  obtain ⟨hp, -, hl, ho, -⟩ := h
  exact linkRight_judged hp hb hl ho

theorem linkRight_heldBulk {l : LinkState} (h : LinkRight l) : LinkRight l.heldBulk := by
  unfold LinkState.heldBulk
  split <;> exact h

theorem linkRight_collected (clocks : Nat) {l : LinkState} (h : LinkRight l) : LinkRight (l.collected clocks) := by
  unfold LinkState.collected
  split <;> exact h

theorem KeepsLaws.raise {s t : State} (h : KeepsLaws s t) (e : Event) : KeepsLaws s (raise e t) :=
  (h.onLink .p _ fun _ => linkRight_raised e).onLink .s _ fun _ => linkRight_raised e

end Sys2Proof.Proofs.StepLaws
end

section
/-! PROOFS. Each shared operation of Machine/Ops.lean keeps the laws. -/

namespace Sys2Proof.Proofs.StepLaws

-- The declarations are elaborated one after another, which keeps the check of the whole text within its memory.
set_option Elab.async false

open Sys2Proof.Machine Sys2Proof.Safety

namespace KeepsLaws

variable {s t : State}

/-- A choice between two states keeps what both keep. -/
theorem ite {c : Prop} [Decidable c] {u v : State} (hu : KeepsLaws s u) (hv : KeepsLaws s v) :
    KeepsLaws s (if c then u else v) := by
  split
  exacts [hu, hv]

/-! ## Wakes and a waiting request given up (R141, R144, R146) -/

theorem loseMemory (h : KeepsLaws s t) : KeepsLaws s t.loseMemory :=
  h.onDram _ (fun _ => Dram.cleared_wf) (fun _ _ he => nomatch he) (fun _ _ he => nomatch he)

theorem wake (h : KeepsLaws s t) (c : WakeCause) : KeepsLaws s (wake c t) := by
  unfold Machine.wake
  split
  next hdoze =>
    have doze : t.power.state = .doze := by simpa using hdoze
    split
    next changing =>
      refine h.onPower _ fun ⟨timer, hold, _, settled⟩ => ⟨timer, hold, fun _ => ⟨doze, changing⟩, settled⟩
    next notChanging =>
      refine h.onPower _ fun ⟨timer, _, kept, _⟩ => ⟨?_, nofun, fun w => ?_, nofun⟩
      · simpa [doze] using timer
      · exact absurd (kept w).2 notChanging
  next => exact h

theorem standbyWake (h : KeepsLaws s t) (c : WakeCause) : KeepsLaws s (standbyWake c t) := by
  have turned : KeepsLaws s (if t.power.changing then t.loseMemory else t) := by
    split
    · exact h.loseMemory
    · exact h
  have samePower : (if t.power.changing then t.loseMemory else t).power = t.power := by split <;> rfl
  unfold Machine.standbyWake
  split
  next hstandby =>
    have standby : t.power.state = .standby := by simpa using hstandby
    refine turned.onPower _ fun ⟨timer, _, kept, _⟩ => ⟨?_, nofun, fun w => ?_, nofun⟩
    · simpa [samePower, standby] using timer
    · simpa [samePower, standby] using kept w
  next => exact h

/-- A change of items that the power law does not speak of. -/
theorem onPowerNotes (h : KeepsLaws s t) (f : Power → Power)
    (same : ∀ p w, PowerLaw (f p) w = PowerLaw p w := by exact fun _ _ => rfl) : KeepsLaws s (t.onPower f) :=
  h.onPower f fun g => (same _ _).symm ▸ g

theorem giveUpWaiting (h : KeepsLaws s t) (c : RefusalCause) : KeepsLaws s (giveUpWaiting c t) := by
  unfold Machine.giveUpWaiting
  split
  · exact (h.onPowerNotes _).raise _
  · exact h

/-! ## The arbiter (R108) -/

theorem recordGrant (h : KeepsLaws s t) (u : MemoryUser) : KeepsLaws s (recordGrant u t) := by
  unfold Machine.recordGrant
  split
  exacts [h, h.onEngine _, h.onEngine _]

theorem grantsUntil (h : KeepsLaws s t) {who : MemoryUser} {fuel : Nat} {u : State}
    (hu : grantsUntil who fuel t = some u) : KeepsLaws s u := by
  induction fuel generalizing t with
  | zero => cases hu
  | succ fuel ih =>
    simp only [Machine.grantsUntil] at hu
    split at hu
    · cases hu
    · split at hu
      · cases hu
        exact h.recordGrant _
      · exact ih (h.recordGrant _) hu

theorem whenServed (h : KeepsLaws s t) (who : MemoryUser) {use : State → State}
    (huse : ∀ {u}, KeepsLaws s u → KeepsLaws s (use u)) : KeepsLaws s (whenServed who use t) := by
  unfold Machine.whenServed
  split
  next u hu => exact huse (h.grantsUntil hu)
  next => exact h

/-! ## The session's state (R1, R2) -/

/-- A change of the session that leaves its plans and the hold reserve alone. -/
theorem onSessionItems (h : KeepsLaws s t) (f : Session → Session)
    (keeps : SessionLaw t.session → SessionLaw (f t.session))
    (same : ∀ x, PlansLaw (f x) = PlansLaw x := by exact fun _ => rfl) : KeepsLaws s (t.onSession f) :=
  h.onSession f keeps fun g => (same _).symm ▸ g

/-- A change of the session that no law speaks of. -/
theorem onSessionNotes (h : KeepsLaws s t) (f : Session → Session)
    (same : ∀ x, SessionLaw (f x) = SessionLaw x := by exact fun _ => rfl)
    (samePlans : ∀ x, PlansLaw (f x) = PlansLaw x := by exact fun _ => rfl) : KeepsLaws s (t.onSession f) :=
  h.onSessionItems f (fun g => (same _).symm ▸ g) samePlans

theorem enterSession (h : KeepsLaws s t) (st : SessionState) (notPaused : st ≠ .paused := by exact nofun)
    (reference : st = .integrating → t.session.referenceSet = true := by exact nofun) :
    KeepsLaws s (enterSession st t) :=
  (h.onSessionItems _ fun ⟨_, _, counters⟩ => ⟨by simpa using notPaused, reference, counters⟩).raise _

theorem enterPaused (h : KeepsLaws s t) (c : PauseCause) : KeepsLaws s (enterPaused c t) :=
  (h.onSessionItems _ fun ⟨_, _, counters⟩ => ⟨by simp, by simp, counters⟩).raise _

theorem enterRunning (h : KeepsLaws s t) : KeepsLaws s (enterRunning t) := by
  unfold Machine.enterRunning
  refine h.enterSession _ ?_ ?_ <;> split <;> simp [*]

theorem drainCheck (h : KeepsLaws s t) (c : WakeCause) : KeepsLaws s (drainCheck c t) := by
  unfold Machine.drainCheck
  split
  · exact ((h.enterSession _).onEngine _).wake c
  · exact h

/-! ## The sequencer's phases (chapter 2) -/

theorem enterIdle (h : KeepsLaws s t) : KeepsLaws s (enterIdle t) := h.onSeq _

theorem coverOpen (h : KeepsLaws s t) : KeepsLaws s (coverOpen t) := by
  have := h.onSeq fun q => { q with shutterTimer := none }
  exact .ite (this.onSeq _) this.enterIdle

theorem enterWaitOpen (h : KeepsLaws s t) : KeepsLaws s (enterWaitOpen t) := by
  unfold Machine.enterWaitOpen
  split
  · exact h.onSeq _
  · exact h.coverOpen

theorem releaseShutter (h : KeepsLaws s t) : KeepsLaws s (releaseShutter t) := h.onLines _

theorem sequencerDrain (h : KeepsLaws s t) : KeepsLaws s (sequencerDrain t) := by
  unfold Machine.sequencerDrain
  split
  · exact h.enterIdle
  · exact h.releaseShutter.enterWaitOpen
  all_goals exact h

theorem enterDraining (h : KeepsLaws s t) (c : WakeCause) : KeepsLaws s (enterDraining c t) :=
  (h.enterSession _).sequencerDrain.drainCheck c

theorem cadenceAfresh (h : KeepsLaws s t) : KeepsLaws s (cadenceAfresh t) := by
  unfold Machine.cadenceAfresh
  dsimp only
  split <;> exact h.onSeq _

/-! ## Limits and the pending plan (R15, R16, R23) -/

theorem checkSubLimit (h : KeepsLaws s t) : KeepsLaws s (checkSubLimit t) := by
  rcases checkSubLimit_cases t with ⟨_, _, _, e⟩ | e <;> rw [e]
  · exact h.enterDraining _
  · exact h

theorem checkLimits (h : KeepsLaws s t) : KeepsLaws s (checkLimits t) := by
  rcases checkLimits_cases t with ⟨_, _, _, e⟩ | e <;> rw [e]
  · exact h.enterDraining _
  · exact h

theorem applyPending (h : KeepsLaws s t) : KeepsLaws s (applyPending t) := by
  unfold Machine.applyPending
  split
  · exact h
  · exact (h.onSessionNotes _).raise _

theorem resumeRunning (h : KeepsLaws s t) : KeepsLaws s (resumeRunning t) :=
  h.enterRunning.cadenceAfresh.checkLimits

/-! ## Retirement (R64) -/

theorem saturate_le (top n : Nat) : saturate top n ≤ top := by
  unfold saturate
  split <;> omega

theorem retireRecord (h : KeepsLaws s t) (i : Fin 6) (o : SubOutcome) (resolved : Bool) :
    KeepsLaws s (retireRecord i o resolved t) := by
  refine (((h.onDesc i _).onRing _ fun _ g => g).onSessionItems _ ?_).raise _
  rintro ⟨cause, reference, hattempts, hmoved, hgeometry, hrun⟩
  refine ⟨cause, reference, ?_, ?_, ?_, hrun⟩
  · unfold attemptsAfter
    split
    exacts [saturate_le 255 _, hattempts]
  · unfold movedAfter
    split_ifs
    exacts [saturate_le 255 _, Nat.zero_le _, hmoved]
  · unfold geometryAfter
    split
    exacts [saturate_le 255 _, hgeometry]

theorem sequencerPause (h : KeepsLaws s t) : KeepsLaws s (sequencerPause t) := by
  unfold Machine.sequencerPause
  split
  · exact h.enterIdle
  · exact h.releaseShutter.enterWaitOpen
  · split
    · exact (h.onLines _).enterIdle
    · dsimp only
      split
      · exact (((h.onLines _).onSeq _).retireRecord _ _ _).releaseShutter.enterWaitOpen
      · exact (((h.onLines _).onSeq _).retireRecord _ _ _).enterIdle
  all_goals exact h

theorem pauseSession (h : KeepsLaws s t) (c : PauseCause) : KeepsLaws s (pauseSession c t) :=
  (h.enterPaused c).sequencerPause

theorem counterPause (h : KeepsLaws s t) (o : SubOutcome) : KeepsLaws s (counterPause o t) := by
  unfold Machine.counterPause
  split
  · split
    exacts [h.pauseSession _, h]
  · split
    exacts [h.pauseSession _, h]
  · split
    · refine (h.onSessionItems _ ?_).pauseSession _
      exact fun ⟨cause, reference, hattempts, hmoved, _, hrun⟩ =>
        ⟨cause, reference, hattempts, hmoved, Nat.zero_le _, hrun⟩
    · exact h
  · exact h

theorem retire (h : KeepsLaws s t) (i : Fin 6) (o : SubOutcome) (resolved : Bool) :
    KeepsLaws s (retire i o resolved t) :=
  ((h.retireRecord i o resolved).counterPause o).drainCheck _

/-! ## Starts, openings and ends of exposures (R31 to R33, R39 to R42) -/

/-- An opened descriptor's snapshot is the active plan (R32). -/
theorem openedRing (h : KeepsLaws s t) (i : Fin 6) (sub : Nat) (kind : SubKind) (now : Clock) (j : Fin 4) :
    KeepsLaws s (t.onRing fun r => { r with
      desc := r.desc.set i (Descriptor.opened sub kind now t.session.plans[j]), lastOpened := sub }) := by
  refine h.onRing _ fun hp hr k => ?_
  by_cases hik : i = k
  · subst hik
    simpa [Descriptor.opened] using hp.1 j
  · have : i.val ≠ k.val := fun e => hik (Fin.ext e)
    simpa [this] using hr k

theorem openIn (h : KeepsLaws s t) (i : Fin 6) (kind : SubKind) : KeepsLaws s (openIn i kind t) := by
  have opened := ((((h.onSessionNotes fun x => { x with
      totals := { x.totals with subsOpened := t.session.totals.subsOpened + 1 } }).openedRing i
    (t.session.totals.subsOpened + 1) kind t.now t.session.activePlan).onLines
      fun l => { l with trigger := true }).onSeq fun q => { q with
        phase := .exposing
        current := some ⟨i, t.session.totals.subsOpened + 1, kind, t.now,
          later t.now (plannedLength kind t.plan), !q.remotePressed⟩
        shutterTimer := none
        wakeAlarm := some (later t.now (alarmDelay kind t.plan))
        lightsSinceDark := if kind == .light then saturate 255 (q.lightsSinceDark + 1) else 0 }).raise .subOpened
  exact .ite (opened.wake _) opened

theorem openSub (h : KeepsLaws s t) (kind : SubKind) : KeepsLaws s (openSub kind t) := by
  rcases openSub_cases kind t with ⟨i, -, e⟩ | ⟨-, e⟩ <;> rw [e]
  · exact (h.openIn i kind).checkSubLimit
  · exact h

theorem cadenceAfterNoSub (h : KeepsLaws s t) : KeepsLaws s (cadenceAfterNoSub t) := h.onSeq _

theorem beginHandshake (h : KeepsLaws s t) : KeepsLaws s (beginHandshake t) := by
  have := h.onLines fun l => { l with shutterClose := true }
  exact .ite (this.openSub _) (this.onSeq _)

theorem skipStart (h : KeepsLaws s t) : KeepsLaws s (skipStart t) :=
  ((h.onSessionNotes _).raise _).cadenceAfterNoSub

theorem startSub (h : KeepsLaws s t) : KeepsLaws s (startSub t) := by
  rcases startSub_cases t with ⟨-, -, e⟩ | ⟨-, -, e⟩ | ⟨-, -, e⟩ | ⟨-, -, e⟩ | ⟨-, -, e⟩ <;> rw [e]
  exacts [h.enterDraining _, h.cadenceAfterNoSub, h.skipStart, h.beginHandshake, h.openSub _]

theorem makeStart (h : KeepsLaws s t) : KeepsLaws s (makeStart t) := by
  have cleared := h.onSeq fun q => { q with cadenceTimer := none, keptExpiry := false }
  have applied : KeepsLaws s
      (match (t.onSeq fun q => { q with cadenceTimer := none, keptExpiry := false }).session.pendingPlan with
        | none => t.onSeq fun q => { q with cadenceTimer := none, keptExpiry := false }
        | some _ => Machine.checkLimits (Machine.applyPending
            (t.onSeq fun q => { q with cadenceTimer := none, keptExpiry := false }))) := by
    split
    exacts [cleared, cleared.applyPending.checkLimits]
  exact .ite applied.startSub applied

theorem endExposure (h : KeepsLaws s t) (c : CurrentExposure) : KeepsLaws s (endExposure c t) := by
  unfold Machine.endExposure
  dsimp only
  split
  · exact .enterWaitOpen (.releaseShutter (.onSeq (.onPort (.onDesc (.onLines h _) _ _) _) _))
  · exact .ite (.onSeq (.onSeq (.onPort (.onDesc (.onLines h _) _ _) _) _) _)
      (.enterIdle (.onSeq (.onPort (.onDesc (.onLines h _) _ _) _) _))

/-! ## The Dark Library (chapter 5) -/

theorem darksLaw_emptied : DarksLaw DarkLibrary.emptied := by
  simp [DarksLaw, DarkLibrary.emptied, DarkSlot.emptied]

theorem emptyLibrary (h : KeepsLaws s t) : KeepsLaws s (emptyLibrary t) := h.onDarks _ fun _ => darksLaw_emptied

theorem clearInUse (h : KeepsLaws s t) : KeepsLaws s (clearInUse t) := h.onDarks _ id

/-- A change of one slot and of the items around the slots, in a library whose law it keeps. -/
theorem darksLaw_set {d : DarkLibrary} (law : DarksLaw d) (k : Fin 4) (x : DarkSlot)
    (distinct : x.state ≠ .empty → ∀ i, i ≠ k → d.slots[i].state ≠ .empty → d.slots[i].band ≠ x.band)
    (count : x.count ≤ 64) (order : List (Fin 4)) (nodup : order.Nodup) (target : Option (Fin 4))
    (htarget : ∀ i, target = some i →
      (i = k ∧ x.state ≠ .empty ∧ x.count < 64) ∨ (i ≠ k ∧ d.mergeTarget = some i)) (use : Option (Fin 4)) :
    DarksLaw ⟨d.slots.set k x, order, target, use⟩ := by
  obtain ⟨bands, counts, merge, -⟩ := law
  have at_k : (d.slots.set k x)[k] = x := by simp
  have elsewhere : ∀ i : Fin 4, i ≠ k → (d.slots.set k x)[i] = d.slots[i] := fun i hi => by
    have : k.val ≠ i.val := fun e => hi (Fin.ext e.symm)
    simp [this]
  refine ⟨fun i j hi hj hb => ?_, fun i => ?_, fun i hi => ?_, nodup⟩
  · dsimp only at hi hj hb
    by_cases hik : i = k <;> by_cases hjk : j = k
    · rw [hik, hjk]
    · subst hik
      rw [at_k] at hi hb
      rw [elsewhere j hjk] at hj hb
      exact absurd hb.symm (distinct hi j hjk hj)
    · subst hjk
      rw [at_k] at hj hb
      rw [elsewhere i hik] at hi hb
      exact absurd hb (distinct hj i hik hi)
    · rw [elsewhere i hik] at hi hb
      rw [elsewhere j hjk] at hj hb
      exact bands i j hi hj hb
  · by_cases hik : i = k
    · subst hik
      simpa [at_k] using count
    · simpa [elsewhere i hik] using counts i
  · dsimp only at hi ⊢
    rcases htarget i hi with ⟨rfl, hx⟩ | ⟨hik, ht⟩
    · rwa [at_k]
    · rw [elsewhere i hik]
      exact merge i ht

/-- A slot may be emptied that is not the merge target (R92). -/
theorem emptySlot (h : KeepsLaws s t) (k : Fin 4) (notTarget : t.darks.mergeTarget ≠ some k) :
    KeepsLaws s (emptySlot k t) := by
  refine h.onDarks (fun d => { d with
    slots := d.slots.set k DarkSlot.emptied, useOrder := d.useOrder.erase k }) fun law => ?_
  exact darksLaw_set law k _ (by simp [DarkSlot.emptied]) (by decide) _ (law.2.2.2.erase k) _
    (fun i hi => .inr ⟨fun e => notTarget (e ▸ hi), hi⟩) _

theorem giveUpMergeTarget (h : KeepsLaws s t) : KeepsLaws s (giveUpMergeTarget t) := by
  unfold Machine.giveUpMergeTarget
  split
  · exact h
  next k _ =>
    refine h.onDarks (fun d => { d with
      slots := d.slots.set k DarkSlot.emptied, useOrder := d.useOrder.erase k, mergeTarget := none }) fun law => ?_
    exact darksLaw_set law k _ (by simp [DarkSlot.emptied]) (by decide) _ (law.2.2.2.erase k) _ (fun i hi => by simp at hi) _

/-- A slot moved to the most recent end keeps the use order free of doubles (R92). -/
theorem nodup_touched {order : List (Fin 4)} (h : order.Nodup) (k : Fin 4) : (order.erase k ++ [k]).Nodup :=
  List.nodup_append.mpr ⟨h.erase k, by simp, fun a ha b hb e => by
    simp only [List.mem_singleton] at hb
    exact h.not_mem_erase (hb ▸ e ▸ ha)⟩

theorem touchSlot (h : KeepsLaws s t) (k : Fin 4) (sub : Nat) : KeepsLaws s (touchSlot k sub t) := by
  refine h.onDarks (fun d => { d with
    slots := d.slots.set k { d.slots[k] with lastUsed := sub }, useOrder := d.useOrder.erase k ++ [k] }) fun law => ?_
  refine darksLaw_set law k { t.darks.slots[k] with lastUsed := sub } (fun hk i hi hs hb => hi (law.1 i k hs hk hb)) (law.2.1 k) _
    (nodup_touched law.2.2.2 k) _ (fun i hi => ?_) _
  by_cases hik : i = k
  · exact .inl ⟨hik, law.2.2.1 k (hik ▸ hi)⟩
  · exact .inr ⟨hik, hi⟩

/-! ## Stopping the engine (R121, R122) -/

theorem freeEngine (h : KeepsLaws s t) : KeepsLaws s (freeEngine t) := h.onEngine _

theorem endJob (h : KeepsLaws s t) : KeepsLaws s (endJob t) := h.freeEngine

theorem holdStop (h : KeepsLaws s t) : KeepsLaws s (holdStop t) := by
  refine KeepsLaws.freeEngine ?_
  split
  · exact h
  · exact h.onEngine _
  · exact h.onEngine _
  · exact h.onResults _
  · split
    · exact (h.retire _ _ _).clearInUse
    · exact (h.retire _ _ _).giveUpMergeTarget
    · exact (h.onDesc _ _).clearInUse

theorem closeStop (h : KeepsLaws s t) : KeepsLaws s (closeStop t) := h.giveUpMergeTarget.clearInUse.freeEngine

theorem takeStop (h : KeepsLaws s t) : KeepsLaws s (takeStop t) := by
  unfold Machine.takeStop
  split
  exacts [h, h.holdStop, h.closeStop]

/-! ## Supply hold and STANDBY (sections 8.3 and 8.4) -/

theorem sequencerHold (h : KeepsLaws s t) : KeepsLaws s (sequencerHold t) := by
  unfold Machine.sequencerHold
  dsimp only
  split
  · exact (((h.onLines _).retire _ _ _).onSeq _).enterIdle
  · exact ((h.onLines _).onSeq _).enterIdle

theorem portHold (h : KeepsLaws s t) : KeepsLaws s (portHold t) := by
  unfold Machine.portHold
  dsimp only
  split
  · exact h.onPort _
  · exact (h.retire _ _ _).onPort _

theorem sessionHold (h : KeepsLaws s t) : KeepsLaws s (sessionHold t) := by
  unfold Machine.sessionHold
  split
  exacts [h.enterPaused _, h]

theorem engineHold (h : KeepsLaws s t) : KeepsLaws s (engineHold t) := by
  have dropped : KeepsLaws s (if t.engine.previewPending then
      (t.onEngine fun e => { e with previewPending := false }).onResults fun r =>
        { r with lastPreviewEnd := some .droppedHold }
    else t) := by
    split
    exacts [(h.onEngine _).onResults _, h]
  have merge : ∀ {u : State}, KeepsLaws s u →
      KeepsLaws s (if u.engine.tilesDone = 0 then Machine.holdStop u else u.onEngine fun e => { e with stop := .hold }) := by
    intro u hu
    split
    exacts [hu.holdStop, hu.onEngine _]
  unfold Machine.engineHold
  dsimp only
  generalize (if t.engine.previewPending then
      (t.onEngine fun e => { e with previewPending := false }).onResults fun r =>
        { r with lastPreviewEnd := some .droppedHold }
    else t) = u at dropped ⊢
  split
  · exact dropped
  · exact dropped.onEngine _
  · split
    exacts [merge dropped, merge dropped, dropped.onEngine _]
  · exact dropped.onEngine _

/-- The part goes into HOLD from a settled ACTIVE or DOZE, with PF_WARN asserted and the reserve timer running (R148). -/
theorem holdPower (h : KeepsLaws s t) (ready : t.holdReady = true) (deadline : Clock) :
    KeepsLaws s ((t.onLines fun l => { l with pfWarn := true }).onPower fun p => { p with
      state := .hold, changing := !(t.power.state == .doze), reserveTimer := some deadline }) := by
  simp only [State.holdReady, Bool.and_eq_true, Bool.or_eq_true, beq_iff_eq, Bool.not_eq_true'] at ready
  obtain ⟨⟨hstate, settled⟩, -⟩ := ready
  refine h.trans ⟨id, id, id, fun ⟨_, _, kept, domains⟩ => ⟨by simp, by simp, fun w => ?_, fun notChanging => ?_⟩,
    id, id, id⟩
  · simpa [settled] using (kept w).2
  · have doze : t.power.state = .doze := by simpa using notChanging
    refine ⟨nofun, nofun, fun _ => (domains settled).2.1 doze, nofun⟩

theorem enterHold (h : KeepsLaws s t) (ready : t.holdReady = true) : KeepsLaws s (enterHold t) := by
  have entered := (((((((h.holdPower ready (later t.now (1000 * t.session.holdReserve))).raise
    .holdChanged).sequencerHold).portHold).sessionHold).engineHold).onLink .p _
      fun _ => linkRight_heldBulk).onLink .s _ fun _ => linkRight_heldBulk
  unfold Machine.enterHold
  dsimp only
  split
  exacts [entered.raise _, entered]

theorem restartDebounce (h : KeepsLaws s t) : KeepsLaws s (restartDebounce t) := h.onSeq _

theorem emptyMarkers (h : KeepsLaws s t) : KeepsLaws s (emptyMarkers t) := h.onResults _

theorem enterStandby (h : KeepsLaws s t) (active : t.power.state = .active) : KeepsLaws s (enterStandby t) := by
  refine KeepsLaws.emptyMarkers (KeepsLaws.emptyLibrary (h.onPower _ fun ⟨timer, _, kept, _⟩ =>
    ⟨?_, nofun, fun w => ?_, nofun⟩))
  · simpa [active] using timer
  · simpa [active] using (kept w).1

/-! ## Guide Star Table changes (R78) -/

theorem judgeTable (h : KeepsLaws s t) (before : Nat) (setting : Bool) : KeepsLaws s (judgeTable before setting t) := by
  unfold Machine.judgeTable
  dsimp only
  split
  · exact (h.raise _).onGuidance _
  · exact h.onGuidance _

end KeepsLaws

end Sys2Proof.Proofs.StepLaws
end

section
/-! PROOFS. Each meaning of a command keeps the laws, and so does a step. -/

namespace Sys2Proof.Proofs.StepLaws

-- The declarations are elaborated one after another, which keeps the check of the whole text within its memory.
set_option Elab.async false

open Sys2Proof.Machine Sys2Proof.Safety

/-! ## The memory (R107, R118, R119) -/

/-- A region in whose entries a property holds that the cleared value has gives a value that has it. -/
theorem regionRead_has {α : Type} {P : α → Prop} {d : α} (hd : P d) {m : Region α} (h : ∀ e ∈ m, P e.2) (k : Nat) :
    P (regionRead d m k) := by
  rcases regionRead_mem d m k with e | e
  · rw [e]
    exact hd
  · exact h _ e

/-- A write of a value with a property keeps it in every entry. -/
theorem regionWrite_has {α : Type} [DecidableEq α] {P : α → Prop} {d v : α} (hv : P v) {m : Region α}
    (h : ∀ e ∈ m, P e.2) (k : Nat) : ∀ e ∈ regionWrite d m k v, P e.2 := fun e he => by
  rcases mem_regionWrite he with he | rfl
  · exact h e he
  · exact hv

theorem regionWriteRun_has {α : Type} [DecidableEq α] {P : α → Prop} {d : α} {vs : List α} (hv : ∀ v ∈ vs, P v)
    {m : Region α} (h : ∀ e ∈ m, P e.2) (k : Nat) : ∀ e ∈ regionWriteRun d m k vs, P e.2 := by
  induction vs generalizing m k with
  | nil => exact h
  | cons v vs ih =>
    exact ih (fun x hx => hv x (List.mem_cons_of_mem v hx)) (regionWrite_has (hv v List.mem_cons_self) h k) (k + 1)

theorem channelRight_zero : ChannelRight 0 0 0 := by simp [ChannelRight]

theorem recordRight_zero : RecordRight CellRecord.zero :=
  ⟨channelRight_zero, channelRight_zero, channelRight_zero, channelRight_zero⟩

/-- An accepted value keeps the relations of its channel: 2 · S · x is at most n · x² + Q, because n times the one is at
most n times the other where n is not 0, and S is 0 where it is (R107, R118, R119). -/
theorem channelRight_accept {n sum square x : Nat} (h : ChannelRight n sum square) (hx : x ≤ 16383) :
    ChannelRight (n + 1) (sum + x) (square + x ^ 2) := by
  obtain ⟨hsum, hsquare, hvar⟩ := h
  have hx2 : x ^ 2 ≤ 16383 ^ 2 := Nat.pow_le_pow_left hx 2
  have cross : 2 * sum * x ≤ n * x ^ 2 + square := by
    rcases Nat.eq_zero_or_pos n with rfl | hn
    · have : sum = 0 := by omega
      simp [this]
    · refine Nat.le_of_mul_le_mul_left ?_ hn
      zify at hvar ⊢
      nlinarith [sq_nonneg ((n : ℤ) * x - sum)]
  refine ⟨by omega, by omega, ?_⟩
  calc (sum + x) ^ 2 = sum ^ 2 + 2 * sum * x + x ^ 2 := by ring
    _ ≤ n * square + (n * x ^ 2 + square) + x ^ 2 := by omega
    _ = (n + 1) * (square + x ^ 2) := by ring

/-- The four channels of a contribution have 14 bits. -/
def Small (x : Quad) : Prop := x.r ≤ 16383 ∧ x.ga ≤ 16383 ∧ x.gb ≤ 16383 ∧ x.b ≤ 16383

theorem recordRight_accept {r : CellRecord} (h : RecordRight r) {x : Quad} (hx : Small x) : RecordRight (r.accept x) := by
  obtain ⟨hr, hga, hgb, hb⟩ := h
  obtain ⟨xr, xga, xgb, xb⟩ := hx
  exact ⟨channelRight_accept hr xr, channelRight_accept hga xga, channelRight_accept hgb xgb, channelRight_accept hb xb⟩

/-- A light's values in a cell are calibrated, so they have 14 bits (R101). -/
theorem small_cell (l : Light) (i j : Nat) : Small (l.cell i j) := by
  unfold Light.cell
  dsimp only
  split <;> exact ⟨calibrated_le _ _, calibrated_le _ _, calibrated_le _ _, calibrated_le _ _⟩

theorem small_groundContribution {l : Light} {i j : Nat} {x : Quad} (h : l.groundContribution i j = some x) :
    Small x := by
  unfold Light.groundContribution at h
  split at h
  · cases h
  · cases h
    exact small_cell l i j

theorem small_skyContribution {l : Light} {t : Transform} {i j : Nat} {x : Quad}
    (h : l.skyContribution t i j = some x) : Small x := by
  unfold Light.skyContribution at h
  dsimp only at h
  split_ifs at h
  cases h
  exact small_cell l _ _

/-- The records of both planes have their relations. -/
def AccLaw (acc : MergeAcc) : Prop := PlaneLaw acc.sky ∧ PlaneLaw acc.ground

theorem accLaw_addGround {acc : MergeAcc} (h : AccLaw acc) (plan : Plan) (k : Nat) {x : Quad} (hx : Small x) :
    AccLaw (acc.addGround plan k x) := by
  rcases MergeAcc.addGround_cases plan k x acc with e | e <;> rw [e]
  · exact h
  · exact ⟨h.1, regionWrite_has (recordRight_accept (regionRead_has recordRight_zero h.2 k) hx) h.2 k⟩

theorem accLaw_addSky {acc : MergeAcc} (h : AccLaw acc) (plan : Plan) (k : Nat) {x : Quad} (hx : Small x) :
    AccLaw (acc.addSky plan k x) := by
  rcases MergeAcc.addSky_cases plan k x acc with e | e <;> rw [e]
  · exact h
  · exact ⟨regionWrite_has (recordRight_accept (regionRead_has recordRight_zero h.1 k) hx) h.1 k, h.2⟩

theorem accLaw_mergeCell (l : Light) (plan : Plan) (sky : Option Transform) {acc : MergeAcc} (h : AccLaw acc)
    (c : Nat × Nat) : AccLaw (l.mergeCell plan sky acc c) := by
  cases hg : l.groundContribution c.1 c.2 <;> cases hs : sky.bind fun t => l.skyContribution t c.1 c.2 <;>
    simp only [Light.mergeCell, hg, hs]
  · exact h
  · obtain ⟨t, -, ht⟩ := Option.bind_eq_some_iff.mp hs
    exact accLaw_addSky h plan _ (small_skyContribution ht)
  · exact accLaw_addGround h plan _ (small_groundContribution hg)
  · obtain ⟨t, -, ht⟩ := Option.bind_eq_some_iff.mp hs
    exact accLaw_addSky (accLaw_addGround h plan _ (small_groundContribution hg)) plan _ (small_skyContribution ht)

theorem accLaw_mergeTile (l : Light) (plan : Plan) (sky : Option Transform) (t : Nat) {acc : MergeAcc}
    (h : AccLaw acc) : AccLaw (l.mergeTile plan sky t acc) :=
  foldl_keeps AccLaw _ (fun _ c ha => accLaw_mergeCell l plan sky ha c) _ _ h

theorem planeLaw_clearTile (w t : Nat) {m : Region CellRecord} (h : PlaneLaw m) : PlaneLaw (clearTile w t m) :=
  foldl_keeps PlaneLaw _ (fun _ _ hm => regionWrite_has recordRight_zero hm _) _ _ h

/-- A memory in canonical form, region by region. -/
theorem dramWf_iff (m : Dram) : m.wf = true ↔
    (∀ i : Fin 6, regionWf 0 m.staging[i] = true) ∧ (∀ i : Fin 4, regionWf Quad.zero m.darkSums[i] = true) ∧
      regionWf CellRecord.zero m.sky = true ∧ regionWf CellRecord.zero m.ground = true ∧
      regionWf 0 m.output = true ∧ regionWf 0 m.preview = true := by
  simp only [Dram.wf, Bool.and_eq_true, List.all_eq_true, and_assoc, Vector.mem_toList_iff, Vector.mem_iff_getElem,
    forall_exists_index]
  constructor
  · rintro ⟨h1, h2, h3⟩
    exact ⟨fun i => h1 _ i i.isLt rfl, fun i => h2 _ i i.isLt rfl, h3⟩
  · rintro ⟨h1, h2, h3⟩
    exact ⟨fun x i hi e => e ▸ h1 ⟨i, hi⟩, fun x i hi e => e ▸ h2 ⟨i, hi⟩, h3⟩

/-- A change of one entry of a vector keeps what every entry has. -/
theorem forall_vector_set {α : Type} {n : Nat} {P : α → Prop} {v : Vector α n} (h : ∀ i : Fin n, P v[i]) (k : Fin n)
    {x : α} (hx : P x) (i : Fin n) : P (v.set k x)[i] := by
  by_cases hik : k.val = i.val
  · simpa [Vector.getElem_set, hik] using hx
  · simpa [Vector.getElem_set, hik] using h i

namespace KeepsLaws

variable {s t : State}

theorem clearOneTile (h : KeepsLaws s t) (n : Nat) : KeepsLaws s (clearOneTile n t) := by
  unfold Machine.clearOneTile
  refine h.onDram _ (fun g => ?_) (fun g => ?_) (fun g => ?_)
  · rw [dramWf_iff] at g ⊢
    dsimp only
    obtain ⟨staging, sums, sky, ground, rest⟩ := g
    exact ⟨staging, sums, clearTile_wf _ _ sky, clearTile_wf _ _ ground, rest⟩
  · dsimp only
    exact planeLaw_clearTile _ _ g
  · dsimp only
    exact planeLaw_clearTile _ _ g

theorem mergeOneTile (h : KeepsLaws s t) (i : Fin 6) (sky : Option Transform) (n : Nat) :
    KeepsLaws s (mergeOneTile i sky n t) := by
  have form := mergeTile_wf (t.lightOf i t.darks.inUse) t.ring.desc[i].snapshot sky n
    ⟨t.dram.sky, t.dram.ground, t.ring.desc[i].mergedSky, t.ring.desc[i].mergedGround, 0⟩
  have law := accLaw_mergeTile (t.lightOf i t.darks.inUse) t.ring.desc[i].snapshot sky n
    (acc := ⟨t.dram.sky, t.dram.ground, t.ring.desc[i].mergedSky, t.ring.desc[i].mergedGround, 0⟩)
  unfold Machine.mergeOneTile
  dsimp only
  generalize (t.lightOf i t.darks.inUse).mergeTile t.ring.desc[i].snapshot sky n
    ⟨t.dram.sky, t.dram.ground, t.ring.desc[i].mergedSky, t.ring.desc[i].mergedGround, 0⟩ = acc at form law ⊢
  have planes : KeepsLaws s (t.onDram fun m => { m with sky := acc.sky, ground := acc.ground }) := by
    refine h.trans ⟨fun g => ?_, id, id, id, id, law, id⟩
    rw [memoryWf_iff, dramWf_iff] at g ⊢
    obtain ⟨⟨staging, sums, hsky, hground, rest⟩, tiles⟩ := g
    obtain ⟨newSky, newGround⟩ := form ⟨hsky, hground⟩
    exact ⟨⟨staging, sums, newSky, newGround, rest⟩, tiles⟩
  exact .onSessionNotes (.onDesc planes _ _) _

theorem darkOneTile (h : KeepsLaws s t) (i : Fin 6) (n : Nat) : KeepsLaws s (darkOneTile i n t) := by
  unfold Machine.darkOneTile
  split
  · exact h
  next k _ =>
    refine h.onDram _ fun g => ?_
    rw [dramWf_iff] at g ⊢
    dsimp only
    obtain ⟨staging, sums, rest⟩ := g
    exact ⟨staging, forall_vector_set (P := fun m => regionWf Quad.zero m = true) sums k (darkMergeTile_wf _ _ _ _ _ (sums k)), rest⟩

theorem finishOneTile (h : KeepsLaws s t) (n : Nat) : KeepsLaws s (finishOneTile n t) := by
  refine h.onDram _ fun g => ?_
  rw [dramWf_iff] at g ⊢
  dsimp only
  obtain ⟨staging, sums, sky, ground, output, preview⟩ := g
  exact ⟨staging, sums, sky, ground, finishTile_wf _ _ _ output, preview⟩

theorem previewOneTile (h : KeepsLaws s t) (pedestal n : Nat) : KeepsLaws s (previewOneTile pedestal n t) := by
  refine h.onDram _ fun g => ?_
  rw [dramWf_iff] at g ⊢
  dsimp only
  obtain ⟨staging, sums, sky, ground, output, preview⟩ := g
  exact ⟨staging, sums, sky, ground, output, previewTile_wf _ _ _ preview⟩

theorem storeLine (h : KeepsLaws s t) (line : List Pixel) : KeepsLaws s (storeLine line t) := by
  unfold Machine.storeLine
  split
  · exact h
  next i _ =>
    refine h.onDram _ fun g => ?_
    rw [dramWf_iff] at g ⊢
    dsimp only
    exact ⟨forall_vector_set (P := fun m => regionWf 0 m = true) g.1 i (writeLine_wf t.port line (g.1 i)), g.2⟩

end KeepsLaws

/-! ## Requests (R154, R155) -/

/-- Every answer of a judgement keeps the laws. -/
def JudgeKeeps (judge : State → Answer) : Prop := ∀ s t : State, KeepsLaws s t → KeepsLaws s (judge t).state

theorem JudgeKeeps.onPOnly {p : SelectPeriod} {judge : State → Answer} (h : JudgeKeeps judge) :
    JudgeKeeps (onPOnly p judge) := fun s t g => by
  unfold Machine.onPOnly
  split
  exacts [h s t g, g]

theorem JudgeKeeps.unlessHeld {judge : State → Answer} (h : JudgeKeeps judge) : JudgeKeeps (unlessHeld judge) :=
  fun s t g => by
    unfold Machine.unlessHeld
    split
    exacts [g, h s t g]

/-- A judgement that leaves the state alone keeps the laws. -/
theorem JudgeKeeps.of_same {judge : State → Answer} (h : ∀ s, (judge s).state = s) : JudgeKeeps judge :=
  fun _ t g => (h t).symm ▸ g

/-- A judgement with two answers, by a check, keeps the laws when both do. -/
theorem KeepsLaws.iteAnswer {s : State} {c : Prop} [Decidable c] {a b : Answer} (ha : c → KeepsLaws s a.state)
    (hb : ¬c → KeepsLaws s b.state) : KeepsLaws s (if c then a else b).state := by
  split
  exacts [ha ‹_›, hb ‹_›]

namespace KeepsLaws

variable {s t : State}

/-- A change of a link's response or of the bytes it sent leaves its events alone. -/
theorem onLinkRecord (h : KeepsLaws s t) (l : Link) (f : LinkState → LinkState)
    (same : ∀ x, LinkRight (f x) = LinkRight x := by exact fun _ => rfl) : KeepsLaws s (t.onLink l f) :=
  h.onLink l f fun x g => (same x).symm ▸ g

theorem takeRequest (h : KeepsLaws s t) (p : SelectPeriod) (wakes : Bool) : KeepsLaws s (takeRequest p wakes t) := by
  have discarded := h.onLinkRecord p.link fun l =>
    { l with response := none, sent := List.replicate (byteCount p) 0xff#8 }
  have woken : KeepsLaws s (if wakes then Machine.standbyWake (match p.link with | .p => .pLink | .s => .sLink)
      (t.onLink p.link fun l => { l with response := none, sent := List.replicate (byteCount p) 0xff#8 })
    else t.onLink p.link fun l => { l with response := none, sent := List.replicate (byteCount p) 0xff#8 }) :=
    .ite (discarded.standbyWake _) discarded
  unfold Machine.takeRequest
  dsimp only
  cases hl : p.link <;> simp only [hl] at woken ⊢
  exacts [woken, woken.giveUpWaiting _]

theorem respond {code : Byte} {p : SelectPeriod} {a : Answer} (h : KeepsLaws s a.state) :
    KeepsLaws s (respond code p a) := h.onLinkRecord _ _

theorem answerWaking (h : KeepsLaws s t) (wakes : Bool) (code : Byte) (p : SelectPeriod) (need : Nat)
    {judge : State → Answer} (keeps : JudgeKeeps judge) :
    KeepsLaws s (answerWaking wakes code p need judge t) := by
  have taken := h.takeRequest p wakes
  exact respond (iteAnswer (fun _ => taken) fun _ => keeps _ _ taken)

end KeepsLaws

/-- A request that is answered by a judgement that keeps the laws keeps them. -/
theorem keepsLaws_answer (s : State) (code : Byte) (p : SelectPeriod) (need : Nat) {judge : State → Answer}
    (keeps : JudgeKeeps judge) : KeepsLaws s (answer code p need judge s) :=
  (KeepsLaws.refl s).answerWaking true code p need keeps

end Sys2Proof.Proofs.StepLaws
end

section
/-! PROOFS. Each command keeps the laws, and so every step does. -/

namespace Sys2Proof.Proofs.StepLaws

-- The declarations are elaborated one after another, which keeps the check of the whole text within its memory.
set_option Elab.async false

open Sys2Proof.Machine Sys2Proof.Safety

/-! ## Chapter 1: the session, the plans and the part settings -/

theorem linkRight_pAtReset : LinkRight LinkState.pAtReset :=
  linkRight_judged (l := LinkState.pAtReset) rfl rfl rfl (by decide)

theorem linkRight_sAtReset : LinkRight LinkState.sAtReset :=
  linkRight_judged (l := LinkState.sAtReset) rfl rfl rfl (by decide)

theorem sessionLaw_atReset : SessionLaw Session.atReset := by simp [SessionLaw, Session.atReset]

theorem powerLaw_atReset (pfWarn : Bool) : PowerLaw Power.atReset pfWarn := by simp [PowerLaw, Power.atReset]

theorem planInRange_default : PlanInRange Plan.default := by simp [PlanInRange, Plan.default]

theorem plansLaw_atReset : PlansLaw Session.atReset := by
  simp [PlansLaw, Session.atReset, planInRange_default]

theorem snapshotsLaw_atReset : SnapshotsLaw Ring.atReset := by
  simp [SnapshotsLaw, Ring.atReset, Descriptor.freed, planInRange_default]

theorem geometryLaw_atReset : GeometryLaw SensorPort.atReset := by simp [GeometryLaw, SensorPort.atReset]

/-- What a full reset leaves has every law (R1, R27, R48, R59, R90, R138, R153). -/
theorem keepsLaws_fullReset (s : State) : KeepsLaws s (fullReset s) where
  memory _ := rfl
  events _ := ⟨linkRight_pAtReset, linkRight_sAtReset⟩
  session _ := sessionLaw_atReset
  power _ := powerLaw_atReset s.lines.pfWarn
  settings _ := (settingsRight_iff _).mpr
    ⟨plansLaw_atReset, snapshotsLaw_atReset, geometryLaw_atReset, fun _ he => nomatch he⟩
  planes _ := ⟨(fun _ he => nomatch he), (fun _ he => nomatch he)⟩
  darks _ := KeepsLaws.darksLaw_emptied

/-- The counters and the run time of a session may be zeroed (R3, R5, R7, R14). -/
theorem sessionLaw_zeroed {x y : Session} (law : SessionLaw x) (sameState : y.state = x.state)
    (sameCause : y.pauseCause = x.pauseCause) (reference : x.state = .integrating → y.referenceSet = x.referenceSet)
    (hattempts : y.attempts = 0 ∨ y.attempts = x.attempts) (hmoved : y.movedCount = 0 ∨ y.movedCount = x.movedCount)
    (hgeometry : y.geometryCount = 0 ∨ y.geometryCount = x.geometryCount)
    (hrun : y.runTime = 0 ∨ y.runTime = x.runTime) : SessionLaw y := by
  obtain ⟨cause, hreference, h1, h2, h3, h4⟩ := law
  refine ⟨by rwa [sameState, sameCause], fun h => ?_, by omega, by omega, by omega, by omega⟩
  rw [sameState] at h
  rw [reference h, hreference h]

theorem judgeArm_keeps : JudgeKeeps judgeArm := fun s t h => by
  refine .iteAnswer (fun _ => ?_) fun _ => h
  refine .wake (.giveUpWaiting (.onEngine (.enterSession (.onRing (.onSessionItems h _ fun law => ?_) _ fun _ g => g)
    _) _) _) _
  exact sessionLaw_zeroed law rfl rfl (fun _ => rfl) (.inr rfl) (.inr rfl) (.inr rfl) (.inl rfl)

theorem judgeStart_keeps : JudgeKeeps judgeStart := fun s t h => by
  unfold judgeStart
  split
  next armed =>
    refine .cadenceAfresh (.enterSession (.onSeq (.onSessionItems h _ fun law => ?_) _) _)
    exact sessionLaw_zeroed law rfl rfl (by simp [armed]) (.inl rfl) (.inl rfl) (.inl rfl) (.inl rfl)
  all_goals exact h

theorem judgePause_keeps : JudgeKeeps judgePause := fun _ _ h =>
  .iteAnswer (fun _ => h.pauseSession _) fun _ => h

theorem KeepsLaws.resumeSession {s t : State} (h : KeepsLaws s t) : KeepsLaws s (resumeSession t) :=
  .resumeRunning (.onSessionItems h _ fun law =>
    sessionLaw_zeroed law rfl rfl (fun _ => rfl) (.inl rfl) (.inl rfl) (.inr rfl) (.inr rfl))

theorem judgeResume_keeps : JudgeKeeps judgeResume := fun _ _ h =>
  .iteAnswer (fun _ => h.resumeSession) fun _ => h

theorem judgeFinish_keeps : JudgeKeeps judgeFinish := fun _ _ h =>
  .iteAnswer (fun _ => h.enterDraining _) fun _ => h

theorem judgeExtend_keeps : JudgeKeeps judgeExtend := fun _ _ h =>
  .iteAnswer (fun _ => .cadenceAfresh (.enterRunning (.onResults (.onSessionItems h _ fun law =>
    sessionLaw_zeroed law rfl rfl (fun _ => rfl) (.inl rfl) (.inl rfl) (.inl rfl) (.inl rfl)) _))) fun _ => h

theorem KeepsLaws.engineClose {s t : State} (h : KeepsLaws s t) : KeepsLaws s (engineClose t) :=
  .ite (.freeEngine (.onEngine (.onResults h _) _)) (.onEngine (.onEngine (.onResults h _) _) _)

/-- A freed ring's snapshots are default plans (R65). -/
theorem KeepsLaws.emptyRing {s t : State} (h : KeepsLaws s t) : KeepsLaws s t.emptyRing := by
  refine h.onRing _ fun _ _ i => ?_
  simp [Descriptor.freed, PlanInRange, Plan.default]

/-- The session's items at Close Session, with its entry to IDLE (R17). -/
theorem sessionLaw_closed (x : Session) : SessionLaw { x.closed with state := .idle, pauseCause := none } := by
  simp [SessionLaw, Session.closed]

theorem judgeClose_keeps : JudgeKeeps judgeClose := fun s t h => by
  refine .iteAnswer (fun _ => h) fun _ => ?_
  have ring : KeepsLaws s (engineClose ((portClose (sequencerClose t)).emptyRing.onRing fun r =>
      { r with lastOpened := 0, lastRetired := 0 })) :=
    .engineClose (.onRing (.emptyRing (.onPort (.enterIdle (.onSeq (.onLines h _) _)) _)) _ fun _ g => g)
  have closed := ((ring.onGuidance fun _ => Guidance.cleared).onSessionItems
    (fun x => { x.closed with state := .idle, pauseCause := none }) fun _ => sessionLaw_closed _).raise .sessionState
  exact .ite (closed.wake .pLink) closed

/-- A field is brought into its range (R20). -/
theorem clampNat_bounds {lo hi : Nat} (h : lo ≤ hi) (x : Nat) : lo ≤ clampNat x lo hi ∧ clampNat x lo hi ≤ hi := by
  unfold clampNat
  split_ifs <;> omega

/-- A written plan's fields are in their ranges (R19, R20). -/
theorem planInRange_clampedPlan (p : SelectPeriod) : PlanInRange (clampedPlan p).1 := by
  have b := fun {lo hi : Nat} (h : lo ≤ hi) x => clampNat_bounds h x
  dsimp only [PlanInRange, clampedPlan, numericField]
  refine ⟨(b ?_ _).1, (b ?_ _).2, (b ?_ _).2, (b ?_ _).1, (b ?_ _).2, (b ?_ _).2, (b ?_ _).2, (b ?_ _).1, (b ?_ _).2,
    (b ?_ _).2, (b ?_ _).1, (b ?_ _).2, (b ?_ _).1, (b ?_ _).2, (b ?_ _).2, (b ?_ _).1, (b ?_ _).2, (b ?_ _).1,
    (b ?_ _).2, (b ?_ _).1, (b ?_ _).2, (b ?_ _).2⟩ <;> omega

theorem judgeWritePlan_keeps (p : SelectPeriod) : JudgeKeeps (judgeWritePlan p) := fun s t h => by
  unfold judgeWritePlan
  split
  · exact h
  next i _ =>
    refine .iteAnswer (fun _ => h) fun _ => .onSession h (fun x => { x with plans := x.plans.set i (clampedPlan p).1 }) id
      fun ⟨plans, reserve⟩ => ⟨?_, reserve⟩
    exact forall_vector_set (P := PlanInRange) plans i (planInRange_clampedPlan p)

theorem judgeReadPlan_keeps (p : SelectPeriod) : JudgeKeeps (judgeReadPlan p) := .of_same fun s => by
  unfold judgeReadPlan
  split <;> rfl

theorem judgeSelectPlan_keeps (p : SelectPeriod) : JudgeKeeps (judgeSelectPlan p) := fun s t h => by
  unfold judgeSelectPlan
  split
  · exact h
  next i _ =>
    have active := h.onSessionNotes fun x => { x with activePlan := i, pendingPlan := none }
    exact .ite (h.onSessionNotes _) (.ite (active.raise .planSwitched) active)

theorem judgeSetPartSettings_keeps (p : SelectPeriod) : JudgeKeeps (judgeSetPartSettings p) := fun s t h => by
  refine .iteAnswer (fun _ => ?_) fun _ => h
  dsimp only [doneOrClamped]
  exact h.onSession _ id fun ⟨plans, _⟩ => ⟨plans, clampNat_bounds (by decide : 5 ≤ 120) _⟩

/-! ## Chapter 2: the sequencer -/

theorem judgeTriggerSub_keeps : JudgeKeeps judgeTriggerSub := fun _ _ h =>
  .iteAnswer (fun _ => h) fun _ => .iteAnswer (fun _ => h) fun _ => .iteAnswer (fun _ => h.makeStart) fun _ => h

namespace KeepsLaws

variable {s t : State}

theorem remoteChanged (h : KeepsLaws s t) (low : Bool) : KeepsLaws s (remoteChanged low t) := by
  unfold Machine.remoteChanged
  exact .onSeq (.onLines h _) _

theorem pressSession (h : KeepsLaws s t) : KeepsLaws s (pressSession t) := by
  unfold Machine.pressSession
  split
  · exact .ite (h.pauseSession _) (.ite h.resumeSession h)
  all_goals exact .ite h.makeStart h

theorem remotePress (h : KeepsLaws s t) : KeepsLaws s (remotePress t) := by
  have press := ((h.onSeq fun q => { q with remotePressed := true, debounceTimer := none }).wake .remote).giveUpWaiting
    .woken
  exact .pressSession (.ite (press.standbyWake .remote) press)

theorem remoteRelease (h : KeepsLaws s t) : KeepsLaws s (remoteRelease t) := by
  have released := h.onSeq fun q => { q with remotePressed := false, debounceTimer := none }
  unfold Machine.remoteRelease
  dsimp only
  split
  · exact .ite (.ite (released.endExposure _) (released.onSeq _)) released
  · exact released

theorem shutterFault (h : KeepsLaws s t) (f : ShutterFault) : KeepsLaws s (shutterFault f t) := .raise (h.onSeq _) _

theorem cadenceExpires (h : KeepsLaws s t) : KeepsLaws s (cadenceExpires t) := .ite h.makeStart (h.onSeq _)

theorem closeTimesOut (h : KeepsLaws s t) : KeepsLaws s (closeTimesOut t) :=
  .openSub (.shutterFault (.onSeq h.releaseShutter _) _) _

theorem openTimesOut (h : KeepsLaws s t) : KeepsLaws s (openTimesOut t) :=
  .enterIdle (.ite ((h.shutterFault .openTimeout).pauseSession _) (h.shutterFault .openTimeout))

end KeepsLaws

/-! ## Chapter 3: the Sensor Port -/

/-- A configured side is in its range and a multiple of 64 (R49). -/
theorem clampedSide_bounds {lo hi : Nat} (h : lo ≤ hi) (hlo : lo % 64 = 0) (raw : Nat) :
    lo ≤ clampedSide raw lo hi ∧ clampedSide raw lo hi ≤ hi ∧ clampedSide raw lo hi % 64 = 0 := by
  have := clampNat_bounds h raw
  unfold clampedSide
  omega

/-- A configured lane count is 2 or 4 (R49). -/
theorem codedLanes (n : Nat) : (codedField 7 (lanesNamed n) 4).1 = 2 ∨ (codedField 7 (lanesNamed n) 4).1 = 4 := by
  unfold codedField lanesNamed
  split_ifs <;> simp_all

theorem judgeConfigureSensor_keeps (p : SelectPeriod) : JudgeKeeps (judgeConfigureSensor p) := fun s t h => by
  refine .iteAnswer (fun _ => ?_) fun _ => h
  refine .emptyLibrary (.onTileMap (.onPort h _ fun _ => ?_) _ (fun _ => rfl) fun _ _ he => nomatch he)
  obtain ⟨w1, w2, w3⟩ := clampedSide_bounds (show 1024 ≤ 6144 by omega) rfl (fieldU16 p 2)
  obtain ⟨h1, h2, h3⟩ := clampedSide_bounds (show 768 ≤ 4096 by omega) rfl (fieldU16 p 4)
  exact ⟨w1, w2, w3, h1, h2, h3, codedLanes _⟩

theorem judgeReadSubOutcome_keeps (p : SelectPeriod) : JudgeKeeps (judgeReadSubOutcome p) := .of_same fun s => by
  unfold judgeReadSubOutcome
  split <;> rfl

namespace KeepsLaws

variable {s t : State}

theorem failFrame (h : KeepsLaws s t) (r : FrameResult) : KeepsLaws s (failFrame r t) := by
  unfold Machine.failFrame
  dsimp only
  split
  · exact .onPort h _
  · exact .retire (.onPort h _) _ _ _

theorem judgeFrame (h : KeepsLaws s t) : KeepsLaws s (judgeFrame t) := by
  unfold Machine.judgeFrame
  split
  · exact .onPort h _
  · exact .ite (.onPort h _) (.onPort h _)

theorem frameStarts (h : KeepsLaws s t) : KeepsLaws s (frameStarts t) := by
  have locked := h.onPort fun p => { p with sync := .synced, lineCount := 0, pixelCount := 0, frameFailed := false }
  refine .judgeFrame ?_
  split
  exacts [locked.failFrame _, locked]

theorem lineArrives (h : KeepsLaws s t) (lanes : List (List Pixel)) : KeepsLaws s (lineArrives lanes t) := by
  unfold Machine.lineArrives
  dsimp only
  split
  · exact h
  · exact .onPort h _
  · exact .onPort (.whenServed h _ fun hu => hu.storeLine _) _

theorem passFrame (h : KeepsLaws s t) : KeepsLaws s (passFrame t) := by
  have passed := (h.onPort fun p => { p with lastResult := some .passed, readoutTimer := none }).onSessionItems
    (fun x => { x with geometryCount := 0 }) fun law =>
      sessionLaw_zeroed law rfl rfl (fun _ => rfl) (.inr rfl) (.inr rfl) (.inl rfl) (.inr rfl)
  unfold Machine.passFrame
  dsimp only
  split
  · exact passed
  · exact .onDesc passed _ _

theorem trailerReceived (h : KeepsLaws s t) (x : Trailer) : KeepsLaws s (trailerReceived x t) := by
  unfold Machine.trailerReceived
  dsimp only
  split
  · exact .ite (.passFrame (.onPort h _)) (.failFrame (.onPort h _) _)
  · exact .ite (.passFrame (.onDesc (.onPort h _) _ _)) (.failFrame (.onDesc (.onPort h _) _ _) _)

theorem trailerArrives (h : KeepsLaws s t) (x : Trailer) : KeepsLaws s (trailerArrives x t) := by
  unfold Machine.trailerArrives
  split
  · exact h
  · exact .onPort h _
  · exact h.trailerReceived x

theorem readoutTimesOut (h : KeepsLaws s t) : KeepsLaws s (readoutTimesOut t) := .failFrame (.onPort h _) _

end KeepsLaws

/-! ## Chapter 4: guidance -/

theorem judgeReportPose_keeps (p : SelectPeriod) : JudgeKeeps (judgeReportPose p) := fun s t h => by
  unfold judgeReportPose
  split
  · exact h
  · split
    · exact h
    · refine .iteAnswer (fun _ => h) fun _ => ?_
      split
      · exact h
      · dsimp only [plain]
        exact h.onDesc _ _

theorem judgeDropStar_keeps (p : SelectPeriod) : JudgeKeeps (judgeDropStar p) := fun s t h => by
  unfold judgeDropStar
  split
  · exact h
  · exact .iteAnswer (fun _ => h) fun _ => .ite h (.judgeTable (.onGuidance h _) _ _)

namespace KeepsLaws

variable {s t : State}

theorem applyCalibration (h : KeepsLaws s t) (i : Fin 6) (c : Option (Calibration × Option (Fin 4))) :
    KeepsLaws s (applyCalibration i c t) := by
  unfold Machine.applyCalibration
  dsimp only
  split
  · exact h
  · split
    · exact .onDesc h _ _
    · exact .touchSlot (.onDesc h _ _) _ _

theorem applyPose (h : KeepsLaws s t) (i : Fin 6) : KeepsLaws s (applyPose i t) := by
  unfold Machine.applyPose
  dsimp only
  split
  · exact .onGuidance h _
  · exact .raise (.onDesc h _ _) _

theorem beginMerge (h : KeepsLaws s t) (i : Fin 6) (o : SubOutcome) (aligned : Bool) (sky : Option Transform) :
    KeepsLaws s (beginMerge i o aligned sky t) := .onEngine (.onDesc h _ _) _

theorem writeDrift (h : KeepsLaws s t) (d : DriftRecord) : KeepsLaws s (writeDrift d t) := .raise (.onGuidance h _) _

/-- The reference-set flag may be set in any session state (R9). -/
theorem referenceSet (h : KeepsLaws s t) : KeepsLaws s (t.onSession fun x => { x with referenceSet := true }) :=
  h.onSessionItems _ fun ⟨cause, _, counters⟩ => ⟨cause, fun _ => rfl, counters⟩

theorem setReference (h : KeepsLaws s t) (i : Fin 6) (taken : List TakenStar) :
    KeepsLaws s (setReference i taken t) := by
  refine .beginMerge (.judgeTable (.raise (.writeDrift ?_ _) _) _ _) _ _ _ _
  have flagged := ((h.onGuidance fun g => { g with
      stars := placeStars t.ring.desc[i].sub (some (0, 0)) (List.finRange 24) taken g.stars
      reference := some ⟨t.ring.desc[i].sub, t.ring.desc[i].midTime⟩ }).onDesc i
    fun d => { d with residual := some (0, 0), matched := taken.length }).referenceSet
  exact .ite (flagged.enterSession _ nofun fun _ => rfl) flagged

theorem completeReferencing (h : KeepsLaws s t) (i : Fin 6) (c : Option (Calibration × Option (Fin 4))) :
    KeepsLaws s (completeReferencing i c t) :=
  .ite (.beginMerge (h.applyCalibration i c) _ _ _ _) (.setReference (h.applyCalibration i c) _ _)

theorem completeSteady (h : KeepsLaws s t) (i : Fin 6) (c : Option (Calibration × Option (Fin 4))) :
    KeepsLaws s (completeSteady i c t) := by
  have applied := (h.applyPose i).applyCalibration i c
  exact .beginMerge (.ite (.writeDrift (.onDesc (.onGuidance applied _) _ _) _)
    (.judgeTable (.writeDrift (.onDesc (.onGuidance applied _) _ _) _) _ _)) _ _ _ _

theorem completeMeasurement (h : KeepsLaws s t) (i : Fin 6) (aligned : Bool)
    (c : Option (Calibration × Option (Fin 4))) : KeepsLaws s (completeMeasurement i aligned c t) := by
  refine .ite ?_ (h.completeReferencing i c)
  unfold completeAligned
  split
  · exact h.completeSteady i c
  · exact ((h.applyPose i).retire _ _ _).endJob
  · exact ((h.applyPose i).retire _ _ _).endJob

end KeepsLaws

/-! ## Chapter 5: the Dark Library -/

theorem judgeClearDarkSlot_keeps (p : SelectPeriod) : JudgeKeeps (judgeClearDarkSlot p) := fun s t h => by
  unfold judgeClearDarkSlot
  split
  · exact h
  · refine .iteAnswer (fun _ => h) fun free => h.emptySlot _ ?_
    simp only [Bool.or_eq_true, beq_iff_eq, not_or] at free
    exact free.1

/-- The slot found for a band holds darks of it, and none is found exactly when no slot does (R93). -/
theorem slotOfBand_none {d : DarkLibrary} {band : Nat} (h : d.slotOfBand band = none) (i : Fin 4)
    (hi : d.slots[i].state ≠ .empty) : d.slots[i].band ≠ band := by
  have := List.find?_eq_none.mp h i (List.mem_finRange i)
  simp only [Bool.and_eq_true, bne_iff_ne, beq_iff_eq, not_and] at this
  exact this hi

theorem slotOfBand_some {d : DarkLibrary} {band : Nat} {i : Fin 4} (h : d.slotOfBand band = some i) :
    d.slots[i].state ≠ .empty ∧ d.slots[i].band = band := by
  simpa using List.find?_some h

/-- A slot is taken only where no slot has the band; one that has it is chosen where there is one (R93). -/
theorem choose_taken {d : DarkLibrary} {band : Nat} {k : Fin 4} (h : d.choose band = .taken k) :
    d.slotOfBand band = none := by
  unfold DarkLibrary.choose at h
  split at h <;> simp_all

theorem choose_sameBand {d : DarkLibrary} {band : Nat} {k : Fin 4} (h : d.choose band = .sameBand k) :
    d.slotOfBand band = some k := by
  unfold DarkLibrary.choose at h
  split at h <;> simp_all

namespace KeepsLaws

variable {s t : State}

/-- A dark merge begins in a slot that has its band and room (R93, R94). -/
theorem beginDarkMerge (h : KeepsLaws s t) (k : Fin 4) (holds : t.darks.slots[k].state ≠ .empty)
    (room : t.darks.slots[k].count < 64) : KeepsLaws s (beginDarkMerge k t) := by
  refine .onEngine (.onDarks h _ fun ⟨bands, counts, _, order⟩ => ⟨bands, counts, fun i hi => ?_, order⟩) _
  cases hi
  exact ⟨holds, room⟩

theorem takeSlot (h : KeepsLaws s t) (k : Fin 4) (band : Nat) (fresh : t.darks.slotOfBand band = none) :
    KeepsLaws s (takeSlot k band t) := by
  refine h.onDarks (fun d => { d with
    slots := d.slots.set k { d.slots[k] with state := .building, band := band, count := 0 }
    useOrder := d.useOrder.erase k }) fun law => ?_
  refine darksLaw_set law k { t.darks.slots[k] with state := .building, band := band, count := 0 }
    (fun _ i _ hs => slotOfBand_none fresh i hs) (Nat.zero_le _) _ (law.2.2.2.erase k) _ (fun i hi => ?_) _
  by_cases hik : i = k
  · exact .inl ⟨hik, by simp, by simp⟩
  · exact .inr ⟨hik, hi⟩

theorem takeDark (h : KeepsLaws s t) (i : Fin 6) : KeepsLaws s (takeDark i t) := by
  have merging := h.onDesc i fun d => { d with state := .merging }
  unfold Machine.takeDark
  dsimp only
  split
  next k hk =>
    split
    · exact .endJob (.retire (.touchSlot merging _ _) _ _ _)
    next room =>
      exact merging.beginDarkMerge k (slotOfBand_some (choose_sameBand hk)).1 (Nat.lt_of_not_le room)
  next k hk =>
    exact .beginDarkMerge (merging.takeSlot k _ (choose_taken hk)) k (by simp [Machine.takeSlot, State.onSlot])
      (by simp [Machine.takeSlot, State.onSlot])
  · exact .endJob (.retire merging _ _ _)

/-- A merge target counts one dark more, is the most recently used, and is no merge target any more (R95). -/
theorem completeSlot (h : KeepsLaws s t) (k : Fin 4) (target : t.darks.mergeTarget = some k) (d : Descriptor) :
    KeepsLaws s (completeSlot k d t) := by
  refine h.onDarks (fun l =>
    let x := { l.slots[k] with
      count := l.slots[k].count + 1
      state := if d.snapshot.darkMinimum ≤ l.slots[k].count + 1 then SlotState.ready else .building }
    { l with
      slots := (l.slots.set k x).set k { (l.slots.set k x)[k] with lastUsed := d.sub }
      useOrder := l.useOrder.erase k ++ [k]
      mergeTarget := none }) fun law => ?_
  obtain ⟨holds, room⟩ := law.2.2.1 k target
  have counted := darksLaw_set law k { t.darks.slots[k] with
      count := t.darks.slots[k].count + 1
      state := if d.snapshot.darkMinimum ≤ t.darks.slots[k].count + 1 then SlotState.ready else .building }
    (fun _ i hi hs hb => hi (law.1 i k hs holds hb)) room _ law.2.2.2 none (fun i hi => by simp at hi) t.darks.inUse
  refine darksLaw_set counted k { (t.darks.slots.set k { t.darks.slots[k] with
      count := t.darks.slots[k].count + 1
      state := if d.snapshot.darkMinimum ≤ t.darks.slots[k].count + 1 then SlotState.ready else .building })[k] with
        lastUsed := d.sub } (fun hk i hi hs hb => hi (counted.1 i k hs hk hb)) (counted.2.1 k) _
    (nodup_touched law.2.2.2 k) none (fun i hi => by simp at hi) t.darks.inUse

theorem completeDarkMerge (h : KeepsLaws s t) (i : Fin 6) : KeepsLaws s (completeDarkMerge i t) := by
  unfold Machine.completeDarkMerge
  dsimp only
  split
  · exact .endJob (.retire h _ _ _)
  next k hk => exact .endJob (.retire (h.completeSlot k hk _) _ _ _)

end KeepsLaws

/-! ## Chapter 6: the Tile Map and the engine -/

theorem clampedEntry_weight (code weight : Nat) : (clampedEntry code weight).1.weight ≤ 16 := by
  unfold clampedEntry
  split <;> exact Nat.min_le_right _ _

theorem judgeWriteTiles_keeps (p : SelectPeriod) : JudgeKeeps (judgeWriteTiles p) := fun s t h => by
  refine .iteAnswer (fun _ => ?_) fun _ => h
  split
  · refine h.onTileMap (fun m => regionWriteRun TileEntry.default m _ _) (regionWriteRun_wf _ _) fun law =>
      regionWriteRun_has (P := fun e : TileEntry => e.weight ≤ 16) ?_ law _
    simp only [List.mem_map, forall_exists_index, and_imp, forall_apply_eq_imp_iff₂]
    exact fun k _ => clampedEntry_weight _ _
  · exact h

theorem judgeReadTiles_keeps (p : SelectPeriod) : JudgeKeeps (judgeReadTiles p) := .of_same fun s => by
  unfold judgeReadTiles
  dsimp only
  split <;> rfl

namespace KeepsLaws

variable {s t : State}

theorem setJob (h : KeepsLaws s t) (j : Job) (w : Work) : KeepsLaws s (setJob j w t) := .onEngine h _

theorem takeDescriptor (h : KeepsLaws s t) (i : Fin 6) : KeepsLaws s (takeDescriptor i t) := by
  unfold Machine.takeDescriptor
  split
  · exact .ite (.setJob (.onDarks (.onDesc h _ _) _ id) _ _) (.setJob (.onDesc h _ _) _ _)
  · exact (h.setJob _ _).takeDark i

theorem takeJob (h : KeepsLaws s t) : KeepsLaws s (takeJob t) := by
  refine .ite (.setJob (.emptyMarkers (.onEngine h _)) _ _) (.ite (.setJob (.onResults (.onEngine h _) _) _ _)
    (.ite (.setJob (.onResults (.onEngine h _) _) _ _) ?_))
  split
  exacts [h.takeDescriptor _, h]

theorem tileWork (h : KeepsLaws s t) : KeepsLaws s (tileWork t) := by
  unfold Machine.tileWork
  dsimp only
  split
  exacts [h.clearOneTile _, h.finishOneTile _, h.previewOneTile _ _, h.mergeOneTile _ _ _, h.darkOneTile _ _, h]

theorem countTile (h : KeepsLaws s t) : KeepsLaws s (countTile t) := by
  unfold Machine.countTile
  exact .onEngine h _

theorem completeTile (h : KeepsLaws s t) : KeepsLaws s (completeTile t) := .ite h.tileWork.countTile.holdStop h.tileWork.countTile

theorem completeJob (h : KeepsLaws s t) {complete : State → State} (keeps : KeepsLaws s (complete t)) :
    KeepsLaws s (completeJob complete t) := .ite h (.ite h.closeStop keeps)

theorem clearCompletes (h : KeepsLaws s t) : KeepsLaws s (clearCompletes t) :=
  .ite (h.endJob.enterSession _) h.endJob

theorem mergeCompletes (h : KeepsLaws s t) (i : Fin 6) (o : SubOutcome) (aligned : Bool) :
    KeepsLaws s (mergeCompletes i o aligned t) := (h.clearInUse.retire _ _ _).endJob

/-! ## Chapter 7: results -/

theorem finishCompletes (h : KeepsLaws s t) : KeepsLaws s (finishCompletes t) := by
  have ended := (h.onResults fun r => { r with output := .valid }).endJob.raise .finishDone
  exact .ite (ended.enterSession _).applyPending ended

theorem previewCompletes (h : KeepsLaws s t) (note : PreviewNote) : KeepsLaws s (previewCompletes note t) :=
  .raise (.endJob (.onResults h _)) _

theorem bulkCompletes (h : KeepsLaws s t) (r : Response) (b : BulkRead) : KeepsLaws s (bulkCompletes r b t) :=
  .onLinkRecord h .p _

end KeepsLaws

theorem judgeBulk_keeps (stream : Stream) (p : SelectPeriod) : JudgeKeeps (judgeBulk stream p) := fun s t h => by
  refine .iteAnswer (fun _ => h) fun _ => ?_
  unfold beginBulk
  dsimp only
  split
  next u hu =>
    split at hu
    · exact h.grantsUntil hu
    · cases hu
  · exact h.wake _

theorem judgeReadBlock_keeps (p : SelectPeriod) : JudgeKeeps (judgeReadBlock p) := fun _ _ h =>
  .iteAnswer (fun _ => (judgeBulk_keeps .output p).unlessHeld _ _ h) fun _ => h

theorem judgeReadPreview_keeps (p : SelectPeriod) : JudgeKeeps (judgeReadPreview p) := fun _ _ h =>
  .iteAnswer (fun _ => (judgeBulk_keeps .preview p).unlessHeld _ _ h) fun _ => h

theorem judgeRequestPreview_keeps : JudgeKeeps judgeRequestPreview := fun _ _ h =>
  .iteAnswer (fun _ => h) fun _ =>
    JudgeKeeps.unlessHeld (fun _ _ g => .iteAnswer (fun _ => g) fun _ => .wake (.onEngine g _) _) _ _ h

/-! ## Chapter 8: power -/

theorem KeepsLaws.refusePower {s t : State} (h : KeepsLaws s t) (c : RefusalCause) : KeepsLaws s (refusePower c t) :=
  .raise (.onPowerNotes h _) _

theorem KeepsLaws.dropWaiting {s t : State} (h : KeepsLaws s t) : KeepsLaws s (dropWaiting t) := .onPowerNotes h _

theorem judgeSetPower_keeps (taken : PowerState) (p : SelectPeriod) : JudgeKeeps (judgeSetPower taken p) :=
  fun s t h => by
    unfold judgeSetPower
    split
    · exact h
    refine .iteAnswer (fun _ => h) fun _ => .iteAnswer (fun _ => h) fun _ => .iteAnswer (fun _ => h.refusePower _) fun _ => ?_
    split
    · exact h.dropWaiting.wake _
    · refine .iteAnswer (fun _ => h.dropWaiting.refusePower _) fun _ => .iteAnswer (fun ready => ?_) fun _ => ?_
      · exact h.enterStandby (by simp at ready; exact ready.1)
      · have waits := h.onPowerNotes fun p => { p with waiting := true }
        exact .ite (waits.wake _) waits

theorem judgeSetStayAwake_keeps (p : SelectPeriod) : JudgeKeeps (judgeSetStayAwake p) := fun s t h => by
  unfold judgeSetStayAwake
  split
  · exact h
  · split
    · exact h
    · exact .ite (.wake (.onPowerNotes h _) _) (.onPowerNotes h _)

namespace KeepsLaws

variable {s t : State}

theorem sessionReturn (h : KeepsLaws s t) : KeepsLaws s (sessionReturn t) := .ite h.resumeRunning h

/-- The move from HOLD to ACTIVE, with the supply's return (R150). -/
theorem returnPower (h : KeepsLaws s t) (hold : t.power.state = .hold) :
    KeepsLaws s ((t.onLines fun l => { l with pfWarn := false }).onPower fun p => { p with
      state := .active, changing := true, reserveTimer := none, lastWake := some .supplyReturn }) :=
  h.trans ⟨id, id, id, fun ⟨_, _, kept, _⟩ => ⟨by simp, nofun, fun w => by simpa [hold] using (kept w).1, nofun⟩,
    id, id, id⟩

theorem supplyReturns (h : KeepsLaws s t) (hold : t.power.state = .hold) : KeepsLaws s (supplyReturns t) :=
  .sessionReturn (.restartDebounce (.raise (h.returnPower hold) _))

theorem loseSession (h : KeepsLaws s t) : KeepsLaws s (loseSession t) := .ite h (h.enterSession _).applyPending

theorem reserveExpires (h : KeepsLaws s t) (hold : t.power.state = .hold) : KeepsLaws s (reserveExpires t) := by
  refine .restartDebounce (.emptyMarkers (.emptyLibrary (.freeEngine (.onEngine (.emptyRing
    (.loseSession (.raise (.onPower h _ ?_) _))) _))))
  exact fun ⟨_, _, kept, _⟩ => ⟨by simp, nofun, fun w => by simpa [hold] using (kept w).1, nofun⟩

theorem pfWarnChanges (h : KeepsLaws s t) (asserted : Bool) : KeepsLaws s (pfWarnChanges asserted t) := by
  unfold Machine.pfWarnChanges
  split_ifs with _ ready hold
  · exact h.enterHold ready
  · exact h.trans ⟨id, id, id, fun ⟨timer, _, rest⟩ => ⟨timer, fun _ => rfl, rest⟩, id, id, id⟩
  · exact h.supplyReturns (by simpa using hold)
  · exact h.trans ⟨id, id, id, fun ⟨timer, _, rest⟩ => ⟨timer, fun e => absurd e (by simpa using hold), rest⟩, id, id, id⟩

theorem enterDoze (h : KeepsLaws s t) (active : t.power.state = .active) :
    KeepsLaws s (enterDoze t) := by
  refine h.onPower _ fun ⟨timer, _, _, _⟩ => ⟨?_, nofun, fun _ => ⟨rfl, rfl⟩, nofun⟩
  simpa [active] using timer

/-- A completed transition leaves the domains as the power state names them (R138, R139). -/
theorem powerLaw_settled {p : Power} {w : Bool} (law : PowerLaw p w) (notKept : p.wakePending = false) :
    PowerLaw p.settled w := by
  obtain ⟨timer, hold, -, -⟩ := law
  cases e : p.state <;> simp_all [PowerLaw, Power.settled]

/-- A wake kept through the entry to DOZE goes on to ACTIVE at once, and stays no longer (R141). -/
theorem powerLaw_keptWake {p : Power} {w : Bool} (law : PowerLaw p w) (doze : p.state = .doze) :
    PowerLaw { p.settled with state := .active, changing := true, wakePending := false } w := by
  obtain ⟨timer, -, -, -⟩ := law
  simp_all [PowerLaw, Power.settled]

theorem completeTransition (h : KeepsLaws s t) : KeepsLaws s (completeTransition t) := by
  have settles : t.power.wakePending = false ∨ t.power.state ≠ .doze →
      KeepsLaws s (Machine.raise .powerState (t.onPower Power.settled)) := by
    refine fun notKept => .raise (h.onPower _ fun law => powerLaw_settled law ?_) _
    cases w : t.power.wakePending
    · rfl
    · exact absurd (law.2.2.1 w).1 (notKept.resolve_left (by simp [w]))
  unfold Machine.completeTransition
  dsimp only
  split
  next e => exact settles (.inr (by simp [e]))
  next e =>
    unfold takeKeptWake
    split
    · exact .onPower (h.raise .powerState) (fun p => { p.settled with
        state := .active, changing := true, wakePending := false }) fun law => powerLaw_keptWake law e
    next notKept => exact settles (.inl (by simpa [Power.settled, e] using notKept))
  next e => exact settles (.inr (by simp [e]))
  next e => exact (settles (.inr (by simp [e]))).loseMemory

end KeepsLaws

/-! ## Chapter 9: the links -/

theorem judgeAcknowledge_keeps (p : SelectPeriod) : JudgeKeeps (judgeAcknowledge p) := fun _ _ h =>
  h.onLink _ _ fun _ => linkRight_acknowledged _

theorem setEventEnable_keeps (p : SelectPeriod) :
    JudgeKeeps fun s => plain .done (s.onLink p.link (LinkState.enabled (fieldEvents p 2))) := fun _ _ h =>
  h.onLink _ _ fun _ => linkRight_enabled (fieldEvents_fifteen p 2)

theorem judgeSetEventOrder_keeps (p : SelectPeriod) : JudgeKeeps (judgeSetEventOrder p) := fun s t h => by
  unfold judgeSetEventOrder
  split
  · exact h
  next order named =>
    unfold orderNamed at named
    dsimp only at named
    split at named
    next four =>
      cases named
      exact h.onLink _ _ fun _ ⟨hp, he, _, _, hat⟩ => ⟨hp, he, four.1, four.2, hat⟩
    · cases named

/-! ## Every command, and every step -/

/-- A choice whose first branch keeps the laws under its guard. -/
theorem KeepsLaws.iteIf {s u v : State} {c : Prop} [Decidable c] (hu : c → KeepsLaws s u) (hv : KeepsLaws s v) :
    KeepsLaws s (if c then u else v) := by
  split
  exacts [hu ‹_›, hv]

theorem hold_of_reserveDue {s : State} (h : s.reserveDue = true) : s.power.state = .hold := by
  simp only [State.reserveDue, Bool.and_eq_true, beq_iff_eq] at h
  exact h.1

theorem active_of_powered {s : State} (h : s.powered = true) : s.power.state = .active := by
  simp only [State.powered, Bool.and_eq_true, beq_iff_eq] at h
  exact h.1

theorem active_of_waitingDue {s : State} (h : s.waitingDue = true) : s.power.state = .active := by
  simp only [State.waitingDue, Bool.and_eq_true] at h
  exact active_of_powered h.2

theorem active_of_dozeDue {s : State} (h : s.dozeDue = true) : s.power.state = .active := by
  simp only [State.dozeDue, State.dozeConditions, List.all_cons, id, Bool.and_eq_true, beq_iff_eq] at h
  exact h.1.1

/-- Every command keeps the laws. -/
theorem exec_keepsLaws {c : Instr} {s t : State} (h : exec c s = .next t) : KeepsLaws s t := by
  cases c <;> cases h
  case fullReset =>
    exact keepsLaws_fullReset s
  case arm p =>
    exact keepsLaws_answer s _ _ _ judgeArm_keeps.unlessHeld.onPOnly
  case start p =>
    exact keepsLaws_answer s _ _ _ judgeStart_keeps.unlessHeld
  case pause p =>
    exact keepsLaws_answer s _ _ _ judgePause_keeps
  case resume p =>
    exact keepsLaws_answer s _ _ _ judgeResume_keeps.unlessHeld
  case finish p =>
    exact keepsLaws_answer s _ _ _ judgeFinish_keeps.onPOnly
  case extend p =>
    exact keepsLaws_answer s _ _ _ judgeExtend_keeps.unlessHeld.onPOnly
  case closeSession p =>
    exact keepsLaws_answer s _ _ _ judgeClose_keeps.onPOnly
  case writePlan p =>
    exact keepsLaws_answer s _ _ _ (judgeWritePlan_keeps p).onPOnly
  case readPlan p =>
    exact keepsLaws_answer s _ _ _ (judgeReadPlan_keeps p)
  case selectPlan p =>
    exact keepsLaws_answer s _ _ _ (judgeSelectPlan_keeps p)
  case setPartSettings p =>
    exact keepsLaws_answer s _ _ _ (judgeSetPartSettings_keeps p).onPOnly
  case triggerSub p =>
    exact keepsLaws_answer s _ _ _ judgeTriggerSub_keeps
  case configureSensor p =>
    exact keepsLaws_answer s _ _ _ (judgeConfigureSensor_keeps p).onPOnly
  case readSubOutcome p =>
    exact keepsLaws_answer s _ _ _ (judgeReadSubOutcome_keeps p)
  case reportPose p =>
    exact keepsLaws_answer s _ _ _ (judgeReportPose_keeps p)
  case dropStar p =>
    exact keepsLaws_answer s _ _ _ (judgeDropStar_keeps p)
  case readStarTable p =>
    exact keepsLaws_answer s _ _ _ fun _ _ h => h.onFree _
  case clearDarkSlot p =>
    exact keepsLaws_answer s _ _ _ (judgeClearDarkSlot_keeps p).onPOnly
  case readDarkLibrary p =>
    exact keepsLaws_answer s _ _ _ fun _ _ h => h.onFree _
  case writeTiles p =>
    exact keepsLaws_answer s _ _ _ (judgeWriteTiles_keeps p).onPOnly
  case readTiles p =>
    exact keepsLaws_answer s _ _ _ (judgeReadTiles_keeps p)
  case readBlock p =>
    exact keepsLaws_answer s _ _ _ (judgeReadBlock_keeps p).onPOnly
  case requestPreview p =>
    exact keepsLaws_answer s _ _ _ judgeRequestPreview_keeps.onPOnly
  case readPreview p =>
    exact keepsLaws_answer s _ _ _ (judgeReadPreview_keeps p).onPOnly
  case setPower p =>
    exact (KeepsLaws.refl s).answerWaking _ _ _ _ (judgeSetPower_keeps _ p).onPOnly
  case setStayAwake p =>
    exact keepsLaws_answer s _ _ _ (judgeSetStayAwake_keeps p)
  case acknowledgeEvents p =>
    exact keepsLaws_answer s _ _ _ (judgeAcknowledge_keeps p)
  case setEventEnable p =>
    exact keepsLaws_answer s _ _ _ (setEventEnable_keeps p)
  case setEventOrder p =>
    exact keepsLaws_answer s _ _ _ (judgeSetEventOrder_keeps p)
  case readPartSettings p =>
    exact keepsLaws_answer s _ _ _ (.of_same fun _ => rfl)
  case readSequencer p =>
    exact keepsLaws_answer s _ _ _ (.of_same fun _ => rfl)
  case readSensor p =>
    exact keepsLaws_answer s _ _ _ (.of_same fun _ => rfl)
  case readRing p =>
    exact keepsLaws_answer s _ _ _ (.of_same fun _ => rfl)
  case readDrift p =>
    exact keepsLaws_answer s _ _ _ (.of_same fun _ => rfl)
  case readGuidance p =>
    exact keepsLaws_answer s _ _ _ (.of_same fun _ => rfl)
  case readEngine p =>
    exact keepsLaws_answer s _ _ _ (.of_same fun _ => rfl)
  case readTotals p =>
    exact keepsLaws_answer s _ _ _ (.of_same fun _ => rfl)
  case readPower p =>
    exact keepsLaws_answer s _ _ _ (.of_same fun _ => rfl)
  case readEvents p =>
    exact keepsLaws_answer s _ _ _ (.of_same fun _ => rfl)
  case readStatus p =>
    exact keepsLaws_answer s _ _ _ (.of_same fun _ => rfl)
  case unknownRequest code p =>
    exact .ite (.refl s) (keepsLaws_answer s _ _ _ (.of_same fun _ => rfl))
  case collection link clocks =>
    exact KeepsLaws.onLink (.refl s) link _ fun _ => linkRight_collected clocks
  case remoteLineChange low =>
    exact .ite (.refl s) ((KeepsLaws.refl s).remoteChanged low)
  case remotePress =>
    exact .ite (KeepsLaws.refl s).remotePress (.refl s)
  case remoteRelease =>
    exact .ite (KeepsLaws.refl s).remoteRelease (.refl s)
  case shutterClosedAssert =>
    exact .ite (.refl s) (.ite (.openSub (.onLines (.refl s) _) _) (.onLines (.refl s) _))
  case shutterClosedDeassert =>
    exact .ite (.ite (.coverOpen (.onLines (.refl s) _)) (.onLines (.refl s) _)) (.refl s)
  case holdEntry =>
    exact .iteIf (fun ready => (KeepsLaws.refl s).enterHold ready) (.refl s)
  case supplyReturn =>
    exact .iteIf (fun hold => (KeepsLaws.refl s).supplyReturns (by simpa using hold)) (.refl s)
  case reserveExpiry =>
    exact .iteIf (fun due => (KeepsLaws.refl s).reserveExpires (hold_of_reserveDue due)) (.refl s)
  case frameStart =>
    exact (KeepsLaws.refl s).frameStarts
  case imageLine lanes =>
    exact .ite ((KeepsLaws.refl s).lineArrives lanes) (.refl s)
  case trailerLine frameCounter temperature =>
    exact .ite ((KeepsLaws.refl s).trailerArrives _) (.refl s)
  case cadenceTimerExpiry =>
    exact .ite (KeepsLaws.refl s).cadenceExpires (.refl s)
  case sequencerStart =>
    exact .ite (KeepsLaws.refl s).makeStart (.refl s)
  case exposureEnd =>
    split
    exacts [(KeepsLaws.refl s).endExposure _, .refl s]
  case closeTimeout =>
    exact .ite (KeepsLaws.refl s).closeTimesOut (.refl s)
  case openTimeout =>
    exact .ite (KeepsLaws.refl s).openTimesOut (.refl s)
  case wakeAlarmFires =>
    exact .ite (.wake (.onSeq (.refl s) _) _) (.refl s)
  case readoutTimeout =>
    exact .ite (KeepsLaws.refl s).readoutTimesOut (.refl s)
  case durationLimitReached =>
    exact .ite ((KeepsLaws.refl s).enterDraining _) (.refl s)
  case engineTakesJob =>
    exact .ite (KeepsLaws.refl s).takeJob (.refl s)
  case engineTileComplete =>
    exact .ite (.ite (KeepsLaws.refl s).closeStop (.whenServed (.refl s) _ fun h => h.completeTile)) (.refl s)
  case planeClearComplete =>
    exact .ite ((KeepsLaws.refl s).completeJob (KeepsLaws.refl s).clearCompletes) (.refl s)
  case measurementComplete =>
    split
    · exact .ite ((KeepsLaws.refl s).completeMeasurement _ _ _) (.refl s)
    · exact (KeepsLaws.refl s).takeStop
    · exact .refl s
  case lightMergeComplete =>
    split
    exacts [(KeepsLaws.refl s).completeJob ((KeepsLaws.refl s).mergeCompletes _ _ _), .refl s]
  case darkMergeComplete =>
    split
    · exact .ite (.refl s) (.ite (KeepsLaws.refl s).closeStop ((KeepsLaws.refl s).completeDarkMerge _))
    · exact .refl s
  case finishComplete =>
    exact .ite ((KeepsLaws.refl s).completeJob (KeepsLaws.refl s).finishCompletes) (.refl s)
  case previewComplete =>
    split
    exacts [(KeepsLaws.refl s).completeJob ((KeepsLaws.refl s).previewCompletes _), .refl s]
  case drainComplete =>
    exact (KeepsLaws.refl s).drainCheck _
  case dozeEntry =>
    exact .iteIf (fun due => (KeepsLaws.refl s).enterDoze (active_of_dozeDue due)) (.refl s)
  case powerTransitionComplete =>
    exact .ite (KeepsLaws.refl s).completeTransition (.refl s)
  case waitingRequestCarriedOut =>
    exact .iteIf (fun due => (KeepsLaws.refl s).enterStandby (active_of_waitingDue due)) (.refl s)
  case bulkReadComplete =>
    split
    · exact .ite (.whenServed (.refl s) _ fun h => h.bulkCompletes _ _) (.refl s)
    · exact .refl s
  case pfWarnLineChange asserted =>
    exact .ite (.refl s) ((KeepsLaws.refl s).pfWarnChanges asserted)

/-- What the part does while no command waits keeps the laws: an own step by its command's meaning, and a millisecond
because it touches the clock and the run time alone (R1, R28). -/
theorem idleStep_keepsLaws {s t : State} (h : idleStep s = .next t) : KeepsLaws s t := by
  unfold idleStep at h
  split at h
  · exact exec_keepsLaws h
  · cases h
    refine ((KeepsLaws.refl s).onSeq fun q => { q with clock := q.clock + 1 }).onSessionItems (fun x => { x with
      runTime := if s.running then saturate 4294967295 (x.runTime + 1) else x.runTime }) ?_
    rintro ⟨cause, reference, h1, h2, h3, hrun⟩
    refine ⟨cause, reference, h1, h2, h3, ?_⟩
    dsimp only
    split
    · exact Nat.lt_of_le_of_lt (KeepsLaws.saturate_le _ _) (by decide)
    · exact hrun

/-- Every step keeps the laws. -/
theorem step_keepsLaws {s t : State} (h : step s = .next t) : KeepsLaws s t := by
  unfold step at h
  split at h
  · exact ((KeepsLaws.refl s).onPending _).trans (exec_keepsLaws h)
  · exact idleStep_keepsLaws h

/-! ## The statements -/

/-- Settles O4: the memory and the Tile Map are written through `regionWrite` alone. -/
theorem everyStepKeepsMemoryCanonical : Obligations.EveryStepKeepsMemoryCanonical :=
  fun _ _ hs h => (step_keepsLaws h).memory hs

/-- Settles O5: every change of a pending or an enable set judges the attention line anew. -/
theorem everyStepKeepsAttentionRight : Obligations.EveryStepKeepsAttentionRight :=
  fun _ _ hs h => (step_keepsLaws h).events hs

/-- Settles O6. -/
theorem everyStepKeepsTheSessionRight : Obligations.EveryStepKeepsTheSessionRight :=
  fun _ _ hs h => (step_keepsLaws h).session hs

/-- Settles O7. -/
theorem everyStepKeepsThePowerStateRight : Obligations.EveryStepKeepsThePowerStateRight :=
  fun _ _ hs h => (step_keepsLaws h).power hs

/-- Settles O8. -/
theorem everyStepKeepsSettingsInRange : Obligations.EveryStepKeepsSettingsInRange :=
  fun _ _ hs h => (step_keepsLaws h).settings hs

/-- Settles O9: an accepted contribution has 14 bits, and keeps n · Q − S² from being negative. -/
theorem everyStepKeepsThePlanesRight : Obligations.EveryStepKeepsThePlanesRight :=
  fun _ _ hs h => (step_keepsLaws h).planes hs

/-- Settles O10: a slot is taken for a band only where no slot has it. -/
theorem everyStepKeepsTheDarkLibraryRight : Obligations.EveryStepKeepsTheDarkLibraryRight :=
  fun _ _ hs h => (step_keepsLaws h).darks hs

/-- Settles O11, law by law from the reset values of the components. -/
theorem resetMeetsEveryLaw : Obligations.ResetMeetsEveryLaw :=
  ⟨rfl, ⟨linkRight_pAtReset, linkRight_sAtReset⟩, sessionLaw_atReset, powerLaw_atReset false,
    (settingsRight_iff _).mpr ⟨plansLaw_atReset, snapshotsLaw_atReset, geometryLaw_atReset, fun _ he => nomatch he⟩,
    ⟨(fun _ he => nomatch he), (fun _ he => nomatch he)⟩, KeepsLaws.darksLaw_emptied⟩

end Sys2Proof.Proofs.StepLaws
end

section
/-! PROOFS. A step's command, the select periods' bytes, and the values of the calibration and of the rejection test. -/

namespace Sys2Proof.Proofs.StepsAndValues

open Sys2Proof.Machine Sys2Proof.Safety

-- The declarations are elaborated one after another, which keeps the check of the whole text within its memory.
set_option Elab.async false

/-! ## Steps -/

/-- Settles O1. -/
theorem stepRunsTheFrontCommand : Obligations.StepRunsTheFrontCommand := by
  intro c rest s h
  simp only [step, h]
  rfl

/-- With nothing due on an empty queue one millisecond passes (R1, R28). -/
theorem step_of_nothing_due {s : State} (hq : s.pending = []) (hd : s.dueStep = none) : step s = .next (tick s) := by
  simp [step, hq, idleStep, hd]

/-- The run time counts in a running state, and saturates (R1). -/
theorem tick_eq (s : State) : tick s = { s with
    seq := { s.seq with clock := s.seq.clock + 1 }
    session := { s.session with
      runTime := if s.running then saturate 4294967295 (s.session.runTime + 1) else s.session.runTime } } := rfl

/-- Settles O2. -/
theorem idleStepIsADueStepOrAMillisecond : Obligations.IdleStepIsADueStepOrAMillisecond := by
  refine ⟨fun i s hq hd => ?_, fun s hq hd running below => ?_, fun s hq hd stopped => ?_⟩
  · simp [step, hq, idleStep, hd]
  · have : ¬4294967295 < s.session.runTime + 1 := by omega
    simp [step_of_nothing_due hq hd, tick_eq, running, saturate, this]
  · simp [step_of_nothing_due hq hd, tick_eq, stopped]

/-- Settles O12: the blocks are those of `State.reset`, by definition. -/
theorem fullResetRestoresEveryBlock : Obligations.FullResetRestoresEveryBlock := fun _ => rfl

/-! ## Select periods (R154, R167) -/

open Laws.SelectPeriodRoundTrip in
/-- Every command's bytes decode to it, constructor by constructor. -/
theorem decode_encode (i : Instr) : Statement i := by
  cases i with
  | fullReset => exact fullReset
  | arm p => exact arm p
  | start p => exact start p
  | pause p => exact pause p
  | resume p => exact resume p
  | finish p => exact finish p
  | extend p => exact extend p
  | closeSession p => exact closeSession p
  | writePlan p => exact writePlan p
  | readPlan p => exact readPlan p
  | selectPlan p => exact selectPlan p
  | setPartSettings p => exact setPartSettings p
  | readPartSettings p => exact readPartSettings p
  | readSequencer p => exact readSequencer p
  | triggerSub p => exact triggerSub p
  | configureSensor p => exact configureSensor p
  | readSensor p => exact readSensor p
  | readSubOutcome p => exact readSubOutcome p
  | readRing p => exact readRing p
  | reportPose p => exact reportPose p
  | dropStar p => exact dropStar p
  | readDrift p => exact readDrift p
  | readGuidance p => exact readGuidance p
  | readStarTable p => exact readStarTable p
  | clearDarkSlot p => exact clearDarkSlot p
  | readDarkLibrary p => exact readDarkLibrary p
  | writeTiles p => exact writeTiles p
  | readTiles p => exact readTiles p
  | readEngine p => exact readEngine p
  | readBlock p => exact readBlock p
  | requestPreview p => exact requestPreview p
  | readPreview p => exact readPreview p
  | readTotals p => exact readTotals p
  | setPower p => exact setPower p
  | setStayAwake p => exact setStayAwake p
  | readPower p => exact readPower p
  | readEvents p => exact readEvents p
  | acknowledgeEvents p => exact acknowledgeEvents p
  | setEventEnable p => exact setEventEnable p
  | setEventOrder p => exact setEventOrder p
  | readStatus p => exact readStatus p
  | unknownRequest code p => exact unknownRequest code p
  | collection link clocks => exact collection link clocks
  | remoteLineChange low => exact remoteLineChange low
  | remotePress => exact remotePress
  | remoteRelease => exact remoteRelease
  | shutterClosedAssert => exact shutterClosedAssert
  | shutterClosedDeassert => exact shutterClosedDeassert
  | holdEntry => exact holdEntry
  | supplyReturn => exact supplyReturn
  | reserveExpiry => exact reserveExpiry
  | frameStart => exact frameStart
  | imageLine lanes => exact imageLine lanes
  | trailerLine frameCounter temperature => exact trailerLine frameCounter temperature
  | cadenceTimerExpiry => exact cadenceTimerExpiry
  | sequencerStart => exact sequencerStart
  | exposureEnd => exact exposureEnd
  | closeTimeout => exact closeTimeout
  | openTimeout => exact openTimeout
  | wakeAlarmFires => exact wakeAlarmFires
  | readoutTimeout => exact readoutTimeout
  | durationLimitReached => exact durationLimitReached
  | engineTakesJob => exact engineTakesJob
  | engineTileComplete => exact engineTileComplete
  | planeClearComplete => exact planeClearComplete
  | measurementComplete => exact measurementComplete
  | lightMergeComplete => exact lightMergeComplete
  | darkMergeComplete => exact darkMergeComplete
  | finishComplete => exact finishComplete
  | previewComplete => exact previewComplete
  | drainComplete => exact drainComplete
  | dozeEntry => exact dozeEntry
  | powerTransitionComplete => exact powerTransitionComplete
  | waitingRequestCarriedOut => exact waitingRequestCarriedOut
  | bulkReadComplete => exact bulkReadComplete
  | pfWarnLineChange asserted => exact pfWarnLineChange asserted

/-- A code of the catalogue is written as it was read, and names a well-formed request. -/
theorem encode_requestNamed {code : Byte} {p : SelectPeriod} {i : Instr} (h : requestNamed code p = some i) :
    i.WellFormed = true ∧ encodeSelectPeriod i = some (p.link, code :: p.bytes) := by
  have read : ∀ {k : Byte}, code.toNat = k.toNat → some (p.link, k :: p.bytes) = some (p.link, code :: p.bytes) :=
    fun e => by rw [BitVec.eq_of_toNat_eq e]
  unfold requestNamed at h
  split at h
  case h_41 => cases h
  all_goals
    cases h
    exact ⟨rfl, read ‹_›⟩

/-- A code that is not in the catalogue names no request. -/
theorem not_isRequestCode {code : Byte} {p : SelectPeriod} (h : requestNamed code p = none) :
    isRequestCode code = false := by
  by_contra named
  simp only [isRequestCode, Bool.not_eq_false, Bool.and_eq_true, decide_eq_true_eq] at named
  obtain ⟨lo, hi⟩ := named
  unfold requestNamed at h
  generalize code.toNat = n at *
  interval_cases n <;> cases h

/-- Settles O3. -/
theorem linkCommandsRoundTrip : Obligations.LinkCommandsRoundTrip := by
  refine ⟨fun i l b wf h => decode_encode i wf l b h, fun l code rest => ?_, fun _ => rfl⟩
  by_cases collect : code = collectCode
  · exact ⟨.collection l rest.length, by simp [decodeSelectPeriod, collect], rfl, fun h => absurd collect h, fun _ => rfl⟩
  · cases named : requestNamed code ⟨l, rest⟩ with
    | some i =>
      obtain ⟨wf, bytes⟩ := encode_requestNamed named
      exact ⟨i, by simp [decodeSelectPeriod, collect, named], wf, fun _ => bytes, fun h => absurd h collect⟩
    | none =>
      refine ⟨.unknownRequest code ⟨l, rest⟩, by simp [decodeSelectPeriod, collect, named], ?_, fun _ => rfl,
        fun h => absurd h collect⟩
      simp [Instr.WellFormed, not_isRequestCode named, collect]

/-! ## Bands and calibrated values (R79, R91, R101) -/

/-- The band of a temperature, by its distance from −40 °C in steps of 2 °C (R91). -/
theorem bandOf_eq (theta : Int) : (bandOf theta : Int) = max 0 (min ((theta + 320) / 16) 62) := by
  unfold bandOf clampInt
  split_ifs <;> omega

/-- A calibrated value is the raw value less the dark value, plus 1,024, in 14 bits (R101). -/
theorem calibrated_eq (raw dark : Nat) : (calibrated raw dark : Int) = max 0 (min ((raw : Int) - dark + 1024) 16383) := by
  unfold calibrated clampInt
  split_ifs <;> omega

/-- What holds of each of the four channels holds of every channel. -/
theorem forall_channel {P : (Quad → Nat) → Prop} (r : P Quad.r) (ga : P Quad.ga) (gb : P Quad.gb) (b : P Quad.b) :
    ∀ ch ∈ [Quad.r, Quad.ga, Quad.gb, Quad.b], P ch := by
  simp [r, ga, gb, b]

/-- A light with a dark slot is calibrated by the slot's mean, rounded half up (R101). -/
theorem cell_of_slot {l : Light} {count : Nat} {sums : Region Quad} (h : l.dark = some (count, sums)) (i j : Nat) :
    l.cell i j = (rawQuad l.bayer l.raw i j).zip (fun x s => calibrated x (darkMean count s))
      (regionRead Quad.zero sums (cellIndex l.width i j)) := by
  simp [Light.cell, h]

/-- A light without one is calibrated by its black level (R101). -/
theorem cell_of_blackLevel {l : Light} (h : l.dark = none) (i j : Nat) :
    l.cell i j = (rawQuad l.bayer l.raw i j).map fun x => calibrated x l.blackLevel := by
  simp [Light.cell, h]

/-- Settles O60. -/
theorem temperaturesFallIntoTheirBands : Obligations.TemperaturesFallIntoTheirBands := by
  refine ⟨fun theta k h1 h2 => ?_, fun theta => ?_, fun theta => ?_, by decide, by decide, by decide, by decide,
    by decide, by decide, by decide, by decide, by decide, fun d theta h => ?_, fun l i j => ?_, fun s i k => ?_⟩
  · have := bandOf_eq theta
    omega
  · have := bandOf_eq theta
    omega
  · have := bandOf_eq theta
    omega
  · simp [Descriptor.band, h]
  · refine ⟨fun count sums h _ => ?_, fun h => ?_, rfl⟩
    · rw [cell_of_slot h]
      exact forall_channel (calibrated_eq _ _) (calibrated_eq _ _) (calibrated_eq _ _) (calibrated_eq _ _)
    · rw [cell_of_blackLevel h]
      exact forall_channel (calibrated_eq _ _) (calibrated_eq _ _) (calibrated_eq _ _) (calibrated_eq _ _)
  · exact ⟨rfl, rfl, rfl, rfl⟩

/-! ## The rejection test (R118, R119) -/

/-- Settles O52. -/
theorem theRejectionTestIsExact : Obligations.TheRejectionTestIsExact := by
  refine ⟨fun k nMin v0 n sum square x => ?_, fun plan r x => ?_, fun r x => ?_⟩
  · have rise : 0 < (n : Int) * x - sum ↔ sum < n * x := by zify; omega
    simp only [channelFails, Bool.and_eq_true, decide_eq_true_eq, and_assoc, rise]
  · simp [rejects, or_assoc]
  · exact forall_channel ⟨rfl, rfl, rfl⟩ ⟨rfl, rfl, rfl⟩ ⟨rfl, rfl, rfl⟩ ⟨rfl, rfl, rfl⟩

/-! ## The ring's choices (R61, R63) -/

/-- Of the indexes of a list to which a key is given, `best` has the lowest key, and is the lowest index among equals;
there is none exactly when no index has a key. -/
def IsLeast (key : Fin 6 → Option Nat) (l : List (Fin 6)) : Option (Fin 6) → Prop
  | none => ∀ j ∈ l, key j = none
  | some i => ∃ k, key i = some k ∧ i ∈ l ∧ ∀ j ∈ l, ∀ m, key j = some m → k < m ∨ (k = m ∧ i ≤ j)

/-- One step of the search. -/
def better (key : Fin 6 → Option Nat) (best : Option (Fin 6)) (i : Fin 6) : Option (Fin 6) :=
  match key i, best with
  | none, _ => best
  | some _, none => some i
  | some k, some b => if (key b).any (k < ·) then some i else best

theorem leastIndex_eq (key : Fin 6 → Option Nat) : leastIndex key = (List.finRange 6).foldl (better key) none := rfl

/-- A later index takes the place of the best one only with a lower key. -/
theorem isLeast_better {key : Fin 6 → Option Nat} {l : List (Fin 6)} {best : Option (Fin 6)} (h : IsLeast key l best)
    {i : Fin 6} (later : ∀ j ∈ l, j ≤ i) : IsLeast key (l ++ [i]) (better key best i) := by
  have mem : ∀ {j}, j ∈ l ++ [i] → j ∈ l ∨ j = i := by simp
  cases hi : key i with
  | none =>
    have same : better key best i = best := by simp [better, hi]
    rw [same]
    cases best with
    | none => exact fun j hj => (mem hj).elim (h j) fun e => e ▸ hi
    | some b =>
      obtain ⟨k, hk, hb, least⟩ := h
      refine ⟨k, hk, by simp [hb], fun j hj m hm => (mem hj).elim (fun g => least j g m hm) fun e => ?_⟩
      simp [e, hi] at hm
  | some k =>
    cases best with
    | none =>
      have taken : better key none i = some i := by simp [better, hi]
      rw [taken]
      refine ⟨k, hi, by simp, fun j hj m hm => (mem hj).elim (fun g => ?_) fun e => ?_⟩
      · simp [h j g] at hm
      · subst e
        exact .inr ⟨by simpa [hi] using hm, le_rfl⟩
    | some b =>
      obtain ⟨kb, hkb, hb, least⟩ := h
      by_cases lower : k < kb
      · have taken : better key (some b) i = some i := by simp [better, hi, hkb, lower]
        rw [taken]
        refine ⟨k, hi, by simp, fun j hj m hm => (mem hj).elim (fun g => ?_) fun e => ?_⟩
        · have := least j g m hm
          exact .inl (by omega)
        · subst e
          exact .inr ⟨by simpa [hi] using hm, le_rfl⟩
      · have kept : better key (some b) i = some b := by simp [better, hi, hkb, lower]
        rw [kept]
        refine ⟨kb, hkb, by simp [hb], fun j hj m hm => (mem hj).elim (fun g => least j g m hm) fun e => ?_⟩
        subst e
        have : k = m := by simpa [hi] using hm
        rcases Nat.lt_or_ge kb k with g | g
        · exact .inl (by omega)
        · exact .inr ⟨by omega, later b hb⟩

/-- The search over a rising list finds the least key. -/
theorem isLeast_foldl (key : Fin 6 → Option Nat) {l : List (Fin 6)} (rising : l.Pairwise (· ≤ ·)) :
    IsLeast key l (l.foldl (better key) none) := by
  induction l using List.reverseRecOn with
  | nil => exact fun j hj => nomatch hj
  | append_singleton l i ih =>
    rw [List.pairwise_append] at rising
    rw [List.foldl_append]
    exact isLeast_better (ih rising.1) fun j hj => rising.2.2 j hj i (by simp)

theorem isLeast_leastIndex (key : Fin 6 → Option Nat) : IsLeast key (List.finRange 6) (leastIndex key) :=
  isLeast_foldl key (by decide)

/-- The index found is the one with the lowest key, the lowest index among equals. -/
theorem leastIndex_some_iff (key : Fin 6 → Option Nat) (i : Fin 6) : leastIndex key = some i ↔
    ∃ k, key i = some k ∧ ∀ j m, key j = some m → k < m ∨ (k = m ∧ i ≤ j) := by
  have found := isLeast_leastIndex key
  constructor
  · intro h
    rw [h] at found
    obtain ⟨k, hk, -, least⟩ := found
    exact ⟨k, hk, fun j => least j (List.mem_finRange j)⟩
  · rintro ⟨k, hk, least⟩
    cases h : leastIndex key with
    | none =>
      rw [h] at found
      simp [found i (List.mem_finRange i)] at hk
    | some b =>
      rw [h] at found
      obtain ⟨kb, hkb, -, leastb⟩ := found
      have h1 := least b kb hkb
      have h2 := leastb i (List.mem_finRange i) k hk
      congr 1
      omega

/-- None is found exactly when no index has a key. -/
theorem leastIndex_none_iff (key : Fin 6 → Option Nat) : leastIndex key = none ↔ ∀ i, key i = none := by
  have found := isLeast_leastIndex key
  refine ⟨fun h i => ?_, fun h => ?_⟩
  · rw [h] at found
    exact found i (List.mem_finRange i)
  · cases e : leastIndex key with
    | none => rfl
    | some b =>
      rw [e] at found
      obtain ⟨k, hk, -⟩ := found
      simp [h b] at hk

/-- An opening goes by the sub number of a descriptor that is not in flight, 0 for a FREE one (R61). -/
theorem openingChoice_eq (r : Ring) : r.openingChoice = leastIndex fun i =>
    if r.desc[i].inFlight then none else some (if r.desc[i].state = .free then 0 else r.desc[i].sub) := by
  unfold Ring.openingChoice
  congr 1
  funext i
  generalize r.desc[i] = d
  cases h : d.state <;> simp [Descriptor.inFlight, h]

/-- A descriptor's key is a number exactly when it is not in flight. -/
theorem openingKey_iff (d : Descriptor) (n m : Nat) :
    (if d.inFlight then none else some n) = some m ↔ d.inFlight = false ∧ n = m := by
  cases d.inFlight <;> simp

theorem waitingKey_iff (d : Descriptor) (m : Nat) :
    (if d.state == .waiting then some d.sub else none) = some m ↔ d.state = .waiting ∧ d.sub = m := by
  by_cases h : d.state = .waiting <;> simp [h]

/-- Settles O42. -/
theorem theRingChoosesTheLowestSubNumber : Obligations.TheRingChoosesTheLowestSubNumber := by
  intro r
  refine ⟨fun i => ?_, ?_, fun i => ?_⟩
  · simp only [openingChoice_eq, leastIndex_some_iff, openingKey_iff]
    exact ⟨fun ⟨_, ⟨hi, e⟩, least⟩ => ⟨hi, fun j hj => e ▸ least j _ ⟨hj, rfl⟩⟩,
      fun ⟨hi, least⟩ => ⟨_, ⟨hi, rfl⟩, fun j m ⟨hj, e⟩ => e ▸ least j hj⟩⟩
  · simp [openingChoice_eq, leastIndex_none_iff]
  · simp only [Ring.nextWaiting, leastIndex_some_iff, waitingKey_iff]
    exact ⟨fun ⟨_, ⟨hi, e⟩, least⟩ => ⟨hi, fun j hj => e ▸ least j _ ⟨hj, rfl⟩⟩,
      fun ⟨hi, least⟩ => ⟨_, ⟨hi, rfl⟩, fun j m ⟨hj, e⟩ => e ▸ least j hj⟩⟩

end Sys2Proof.Proofs.StepsAndValues
end

section
/-! PROOFS. The taking of a request commutes with every operation that does not read a pending response: what an operation
makes of the state at the judgement is the taking of what it makes of the state before. -/

namespace Sys2Proof.Proofs.Taking

open Sys2Proof.Machine Sys2Proof.Safety

-- The declarations are elaborated one after another, which keeps the check of the whole text within its memory.
set_option Elab.async false

variable (p : SelectPeriod) (s : State)

/-! ## Updates of one component -/

@[simp] theorem taken_onSession (f : Session → Session) : (taken p s).onSession f = taken p (s.onSession f) := by
  unfold taken; cases p.link <;> rfl
@[simp] theorem taken_onSeq (f : Sequencer → Sequencer) : (taken p s).onSeq f = taken p (s.onSeq f) := by
  unfold taken; cases p.link <;> rfl
@[simp] theorem taken_onPort (f : SensorPort → SensorPort) : (taken p s).onPort f = taken p (s.onPort f) := by
  unfold taken; cases p.link <;> rfl
@[simp] theorem taken_onRing (f : Ring → Ring) : (taken p s).onRing f = taken p (s.onRing f) := by
  unfold taken; cases p.link <;> rfl
@[simp] theorem taken_onDesc (i : Fin 6) (f : Descriptor → Descriptor) :
    (taken p s).onDesc i f = taken p (s.onDesc i f) := taken_onRing p s _
@[simp] theorem taken_emptyRing : (taken p s).emptyRing = taken p s.emptyRing := taken_onRing p s _
@[simp] theorem taken_onGuidance (f : Guidance → Guidance) : (taken p s).onGuidance f = taken p (s.onGuidance f) := by
  unfold taken; cases p.link <;> rfl
@[simp] theorem taken_onDarks (f : DarkLibrary → DarkLibrary) : (taken p s).onDarks f = taken p (s.onDarks f) := by
  unfold taken; cases p.link <;> rfl
@[simp] theorem taken_onTileMap (f : Region TileEntry → Region TileEntry) :
    (taken p s).onTileMap f = taken p (s.onTileMap f) := by
  unfold taken; cases p.link <;> rfl
@[simp] theorem taken_onEngine (f : Engine → Engine) : (taken p s).onEngine f = taken p (s.onEngine f) := by
  unfold taken; cases p.link <;> rfl
@[simp] theorem taken_onResults (f : Results → Results) : (taken p s).onResults f = taken p (s.onResults f) := by
  unfold taken; cases p.link <;> rfl
@[simp] theorem taken_onPower (f : Power → Power) : (taken p s).onPower f = taken p (s.onPower f) := by
  unfold taken; cases p.link <;> rfl
@[simp] theorem taken_onLines (f : Lines → Lines) : (taken p s).onLines f = taken p (s.onLines f) := by
  unfold taken; cases p.link <;> rfl
@[simp] theorem taken_onDram (f : Dram → Dram) : (taken p s).onDram f = taken p (s.onDram f) := by
  unfold taken; cases p.link <;> rfl
@[simp] theorem taken_onFree (f : Nat → Nat) : (taken p s).onFree f = taken p (s.onFree f) := by
  unfold taken; cases p.link <;> rfl
@[simp] theorem raise_taken (e : Event) : raise e (taken p s) = taken p (raise e s) := by
  unfold taken; cases p.link <;> rfl

/-! ## Readings -/

@[simp] theorem taken_running : (taken p s).running = s.running := by simp [State.running]
@[simp] theorem taken_idleOrLost : (taken p s).idleOrLost = s.idleOrLost := by simp [State.idleOrLost]
@[simp] theorem taken_plan : (taken p s).plan = s.plan := by simp [State.plan]
@[simp] theorem taken_mode : (taken p s).mode = s.mode := by simp [State.mode]
@[simp] theorem taken_now : (taken p s).now = s.now := by simp [State.now]
@[simp] theorem taken_powered : (taken p s).powered = s.powered := by simp [State.powered]
@[simp] theorem taken_reading : (taken p s).reading = s.reading := by simp [State.reading]
@[simp] theorem taken_canStart : (taken p s).canStart = s.canStart := by simp [State.canStart]
@[simp] theorem taken_subLimitMet : (taken p s).subLimitMet = s.subLimitMet := by simp [State.subLimitMet]
@[simp] theorem taken_durationMet : (taken p s).durationMet = s.durationMet := by simp [State.durationMet]
@[simp] theorem taken_timeRemaining : (taken p s).timeRemaining = s.timeRemaining := by simp [State.timeRemaining]
@[simp] theorem taken_darkDue : (taken p s).darkDue = s.darkDue := by simp [State.darkDue]
@[simp] theorem taken_planLocked : (taken p s).planLocked = s.planLocked := by simp [State.planLocked]
@[simp] theorem taken_tileCount : (taken p s).tileCount = s.tileCount := by simp [State.tileCount]
@[simp] theorem taken_tileless : (taken p s).tileless = s.tileless := by simp [State.tileless]
@[simp] theorem taken_poseTarget (sub : Nat) : (taken p s).poseTarget sub = s.poseTarget sub := by
  simp [State.poseTarget]
@[simp] theorem taken_previewAllowed : (taken p s).previewAllowed = s.previewAllowed := by simp [State.previewAllowed]
@[simp] theorem taken_streamSize (x : Stream) : (taken p s).streamSize x = s.streamSize x := by
  cases x <;> simp [State.streamSize]

/-! ## Shared operations -/

@[simp] theorem wake_taken (c : WakeCause) : wake c (taken p s) = taken p (wake c s) := by
  simp [wake, apply_ite (taken p)]
@[simp] theorem standbyWake_taken (c : WakeCause) : standbyWake c (taken p s) = taken p (standbyWake c s) := by
  cases h : s.power.changing <;> simp [standbyWake, h, State.loseMemory, apply_ite (taken p)]
@[simp] theorem giveUpWaiting_taken (c : RefusalCause) : giveUpWaiting c (taken p s) = taken p (giveUpWaiting c s) := by
  simp [giveUpWaiting, apply_ite (taken p)]
@[simp] theorem enterSession_taken (st : SessionState) : enterSession st (taken p s) = taken p (enterSession st s) := by
  simp [enterSession]
@[simp] theorem enterPaused_taken (c : PauseCause) : enterPaused c (taken p s) = taken p (enterPaused c s) := by
  simp [enterPaused]
@[simp] theorem enterRunning_taken : enterRunning (taken p s) = taken p (enterRunning s) := by simp [enterRunning]
@[simp] theorem drainCheck_taken (c : WakeCause) : drainCheck c (taken p s) = taken p (drainCheck c s) := by
  simp [drainCheck, apply_ite (taken p)]
@[simp] theorem enterIdle_taken : enterIdle (taken p s) = taken p (enterIdle s) := by simp [enterIdle]
@[simp] theorem coverOpen_taken : coverOpen (taken p s) = taken p (coverOpen s) := by
  simp [coverOpen, apply_ite (taken p)]
@[simp] theorem enterWaitOpen_taken : enterWaitOpen (taken p s) = taken p (enterWaitOpen s) := by
  simp [enterWaitOpen, apply_ite (taken p)]
@[simp] theorem releaseShutter_taken : releaseShutter (taken p s) = taken p (releaseShutter s) := by
  simp [releaseShutter]
@[simp] theorem sequencerDrain_taken : sequencerDrain (taken p s) = taken p (sequencerDrain s) := by
  cases h : s.seq.phase <;> simp [sequencerDrain, h]
@[simp] theorem enterDraining_taken (c : WakeCause) : enterDraining c (taken p s) = taken p (enterDraining c s) := by
  simp [enterDraining]
@[simp] theorem cadenceAfresh_taken : cadenceAfresh (taken p s) = taken p (cadenceAfresh s) := by
  simp [cadenceAfresh, apply_ite (taken p)]
@[simp] theorem checkSubLimit_taken : checkSubLimit (taken p s) = taken p (checkSubLimit s) := by
  simp [checkSubLimit, apply_ite (taken p)]
@[simp] theorem checkLimits_taken : checkLimits (taken p s) = taken p (checkLimits s) := by
  simp [checkLimits, apply_ite (taken p)]
@[simp] theorem applyPending_taken : applyPending (taken p s) = taken p (applyPending s) := by
  cases h : s.session.pendingPlan <;> simp [applyPending, h]
@[simp] theorem resumeRunning_taken : resumeRunning (taken p s) = taken p (resumeRunning s) := by simp [resumeRunning]
@[simp] theorem retireRecord_taken (i : Fin 6) (o : SubOutcome) (r : Bool) :
    retireRecord i o r (taken p s) = taken p (retireRecord i o r s) := by
  simp [retireRecord]
@[simp] theorem sequencerPause_taken : sequencerPause (taken p s) = taken p (sequencerPause s) := by
  cases h : s.seq.phase with
  | exposing =>
    cases c : s.seq.current with
    | none => simp [sequencerPause, h, c]
    | some x => cases k : x.kind <;> simp [sequencerPause, h, c, k]
  | _ => simp [sequencerPause, h]
@[simp] theorem pauseSession_taken (c : PauseCause) : pauseSession c (taken p s) = taken p (pauseSession c s) := by
  simp [pauseSession]
@[simp] theorem openIn_taken (i : Fin 6) (k : SubKind) : openIn i k (taken p s) = taken p (openIn i k s) := by
  simp [openIn, apply_ite (taken p)]
@[simp] theorem openSub_taken (k : SubKind) : openSub k (taken p s) = taken p (openSub k s) := by
  cases h : s.ring.openingChoice <;> simp [openSub, h]
@[simp] theorem cadenceAfterNoSub_taken : cadenceAfterNoSub (taken p s) = taken p (cadenceAfterNoSub s) := by
  simp [cadenceAfterNoSub]
@[simp] theorem beginHandshake_taken : beginHandshake (taken p s) = taken p (beginHandshake s) := by
  cases h : s.lines.shutterClosed <;> simp [beginHandshake, h]
@[simp] theorem skipStart_taken : skipStart (taken p s) = taken p (skipStart s) := by simp [skipStart]
@[simp] theorem startSub_taken : startSub (taken p s) = taken p (startSub s) := by
  cases h : s.ring.openingChoice <;> simp [startSub, h, apply_ite (taken p)]
@[simp] theorem makeStart_taken : makeStart (taken p s) = taken p (makeStart s) := by
  cases h : s.session.pendingPlan <;> simp [makeStart, h, apply_ite (taken p)]
@[simp] theorem emptySlot_taken (i : Fin 4) : emptySlot i (taken p s) = taken p (emptySlot i s) := by
  simp [emptySlot, State.onSlot]
@[simp] theorem emptyLibrary_taken : emptyLibrary (taken p s) = taken p (emptyLibrary s) := by simp [emptyLibrary]
@[simp] theorem freeEngine_taken : freeEngine (taken p s) = taken p (freeEngine s) := by simp [freeEngine]
@[simp] theorem emptyMarkers_taken : emptyMarkers (taken p s) = taken p (emptyMarkers s) := by simp [emptyMarkers]
@[simp] theorem enterStandby_taken : enterStandby (taken p s) = taken p (enterStandby s) := by simp [enterStandby]
@[simp] theorem judgeTable_taken (n : Nat) (b : Bool) : judgeTable n b (taken p s) = taken p (judgeTable n b s) := by
  simp only [judgeTable, taken_guidance]
  split <;> simp
@[simp] theorem dropStar_taken (i : Fin 24) : dropStar i (taken p s) = taken p (dropStar i s) := by
  simp [dropStar, State.onStar, apply_ite (taken p)]
@[simp] theorem refusePower_taken (c : RefusalCause) : refusePower c (taken p s) = taken p (refusePower c s) := by
  simp [refusePower]
@[simp] theorem dropWaiting_taken : dropWaiting (taken p s) = taken p (dropWaiting s) := by simp [dropWaiting]
@[simp] theorem waitForIdle_taken : waitForIdle (taken p s) = taken p (waitForIdle s) := by
  simp [waitForIdle, apply_ite (taken p)]
@[simp] theorem setStayAwake_taken (d : Bool) : setStayAwake d (taken p s) = taken p (setStayAwake d s) := by
  simp [setStayAwake, apply_ite (taken p)]

/-! ## Session requests -/

@[simp] theorem armSession_taken : armSession (taken p s) = taken p (armSession s) := by simp [armSession]
@[simp] theorem startSession_taken : startSession (taken p s) = taken p (startSession s) := by simp [startSession]
@[simp] theorem resumeSession_taken : resumeSession (taken p s) = taken p (resumeSession s) := by simp [resumeSession]
@[simp] theorem extendSession_taken : extendSession (taken p s) = taken p (extendSession s) := by simp [extendSession]
@[simp] theorem sequencerClose_taken : sequencerClose (taken p s) = taken p (sequencerClose s) := by
  simp [sequencerClose]
@[simp] theorem portClose_taken : portClose (taken p s) = taken p (portClose s) := by simp [portClose]
@[simp] theorem engineClose_taken : engineClose (taken p s) = taken p (engineClose s) := by
  simp [engineClose, apply_ite (taken p)]
@[simp] theorem closeSession_taken : closeSession (taken p s) = taken p (closeSession s) := by
  simp [closeSession, apply_ite (taken p)]
@[simp] theorem selectNow_taken (i : Fin 4) : selectNow i (taken p s) = taken p (selectNow i s) := by
  simp [selectNow, apply_ite (taken p)]
@[simp] theorem stagePlan_taken (i : Fin 4) : stagePlan i (taken p s) = taken p (stagePlan i s) := by simp [stagePlan]
@[simp] theorem configureSensor_taken (w h : Nat) (b : Bayer) (n : Nat) :
    configureSensor w h b n (taken p s) = taken p (configureSensor w h b n s) := by
  simp [configureSensor]

/-! ## Answers -/

/-- The answer of a judgement whose state is a taking, on a quiet taking. -/
theorem answerWaking_of_taken {p : SelectPeriod} {s t : State} {wakes : Bool} {code : Byte} {need : Nat}
    {judge : State → Answer} {o : ReqOutcome} {fs : List Nat} {d : List Byte} (quiet : QuietTaking p s)
    (long : need ≤ byteCount p) (h : judge (taken p s) = ⟨taken p t, o, fs, d, none⟩) :
    answerWaking wakes code p need judge s = answered p code o fs d t := by
  rw [answerWaking_quiet wakes code judge quiet long, h, respond_taken]

theorem answer_of_taken {p : SelectPeriod} {s t : State} {code : Byte} {need : Nat} {judge : State → Answer}
    {o : ReqOutcome} {fs : List Nat} {d : List Byte} (quiet : QuietTaking p s) (long : need ≤ byteCount p)
    (h : judge (taken p s) = ⟨taken p t, o, fs, d, none⟩) : answer code p need judge s = answered p code o fs d t :=
  answerWaking_of_taken quiet long h

/-- The taking of a request on the P-link wakes the part in STANDBY (R146). -/
theorem takeRequest_pLink {p : SelectPeriod} (hp : p.link = .p) (s : State) :
    takeRequest p true s = taken p (standbyWake .pLink s) := by
  rw [← standbyWake_taken]
  simp [takeRequest, hp, taken]

theorem onPOnly_pLink {p : SelectPeriod} (hp : p.link = .p) (judge : State → Answer) (s : State) :
    onPOnly p judge s = judge s := by
  simp [onPOnly, hp]

theorem onPOnly_sLink {p : SelectPeriod} (hp : p.link = .s) (judge : State → Answer) (s : State) :
    onPOnly p judge s = plain .refusedLink s := by
  simp [onPOnly, hp]

theorem unlessHeld_of_not_hold {s : State} (h : s.power.state ≠ .hold) (judge : State → Answer) :
    unlessHeld judge s = judge s := by
  simp [unlessHeld, h]

theorem unlessHeld_of_hold {s : State} (h : s.power.state = .hold) (judge : State → Answer) :
    unlessHeld judge s = plain .held s := by
  simp [unlessHeld, h]

/-- A number below the count names its index, and one past it names none. -/
theorem indexNamed_of_lt {n k : Nat} {i : Fin n} (h : k = i.val) : indexNamed n k = some i := by
  subst h
  simp [indexNamed]

theorem indexNamed_of_ge {n k : Nat} (h : n ≤ k) : indexNamed n k = none := by
  simp [indexNamed, h]

end Sys2Proof.Proofs.Taking
end

section
/-! PROOFS. The session requests: Arm, Start, Pause, Resume, Finish, Extend and Close Session. -/

namespace Sys2Proof.Proofs.SessionRequests

open Sys2Proof.Machine Sys2Proof.Safety Sys2Proof.Proofs.Taking

-- The declarations are elaborated one after another, which keeps the check of the whole text within its memory.
set_option Elab.async false

/-- A session is in a running state in REFERENCING and in INTEGRATING (section 1.4). -/
theorem running_iff (s : State) :
    s.running = true ↔ s.session.state = .referencing ∨ s.session.state = .integrating := by
  simp [State.running]

/-! ## Arm and Start -/

/-- Settles O17. -/
theorem armOpensASession : Obligations.ArmOpensASession := by
  intro p s hp long notStandby notHold idle
  have judged : onPOnly p (unlessHeld judgeArm) (taken p s) = plain .accepted (taken p (armSession s)) := by
    simp [onPOnly_pLink hp, unlessHeld_of_not_hold, notHold, judgeArm, idle]
  exact congrArg _ (answer_of_taken (quietTaking_pLink hp notStandby) long judged)

/-- The cadence taken up behind a closed cover, or while the open confirmation is awaited (R30). -/
theorem cadenceAfresh_covered {s : State} (h : s.lines.shutterClosed = true ∨ s.seq.phase = .waitOpen) :
    cadenceAfresh s = { s with seq := { s.seq with
      phase := .waitOpen, shutterTimer := some (s.seq.clock + 500#32), keptExpiry := false
      cadenceTimer := if s.plan.triggerMode = .timed then some s.seq.clock else none } } := by
  have covered : (s.lines.shutterClosed || s.seq.phase == .waitOpen) = true := by simpa using h
  simp [cadenceAfresh, covered, State.onSeq, State.mode, State.now, later]

/-- The cadence taken up with the cover open (R30). -/
theorem cadenceAfresh_uncovered {s : State} (hopen : s.lines.shutterClosed = false) (h : s.seq.phase ≠ .waitOpen) :
    cadenceAfresh s = { s with seq := { s.seq with
      phase := .waitStart, shutterTimer := none, keptExpiry := false
      cadenceTimer := if s.plan.triggerMode = .timed then some s.seq.clock else none } } := by
  simp [cadenceAfresh, hopen, h, State.onSeq, State.mode, State.now]

/-- Settles O18. -/
theorem startBeginsReferencing : Obligations.StartBeginsReferencing := by
  refine ⟨fun p s quiet long notHold => ⟨fun armed => ?_, fun arming => ?_⟩,
    fun s => ⟨cadenceAfresh_covered, cadenceAfresh_uncovered⟩⟩
  · have judged : unlessHeld judgeStart (taken p s) = plain .done (taken p (startSession s)) := by
      simp [unlessHeld_of_not_hold, notHold, judgeStart, armed]
    exact congrArg _ (answer_of_taken quiet long judged)
  · have judged : unlessHeld judgeStart (taken p s) = plain .busy (taken p s) := by
      simp [unlessHeld_of_not_hold, notHold, judgeStart, arming]
    exact congrArg _ (answer_of_taken quiet long judged)

/-! ## Pause (R43) -/

/-- A Pause in a running state is DONE, and pauses the session (R6). -/
theorem exec_pause {p : SelectPeriod} {s : State} (quiet : QuietTaking p s) (long : 2 ≤ byteCount p)
    (running : s.running = true) :
    exec (.pause p) s = .next (answered p 0x03#8 .done [] [] (pauseSession .request s)) := by
  have judged : judgePause (taken p s) = plain .done (taken p (pauseSession .request s)) := by
    simp [judgePause, running]
  exact congrArg _ (answer_of_taken quiet long judged)

/-- The sequencer's action at a pause leaves the session's state and its cause alone (R43). -/
theorem sequencerPause_session (s : State) :
    (sequencerPause s).session.state = s.session.state ∧ (sequencerPause s).session.pauseCause = s.session.pauseCause := by
  unfold sequencerPause
  split
  · simp
  · simp
  · split
    · simp
    · dsimp only
      split <;> simp [retireRecord]
  · exact ⟨rfl, rfl⟩
  · exact ⟨rfl, rfl⟩

/-- With the cover open, the wait for it ends at once in IDLE in a session that does not run (R41). -/
theorem enterWaitOpen_stopped {s : State} (hopen : s.lines.shutterClosed = false) (stopped : s.running = false) :
    enterWaitOpen s = { s with seq := { s.seq with
      shutterTimer := none, phase := .idle, cadenceTimer := none, keptExpiry := false, wakeAlarm := none } } := by
  rcases enterWaitOpen_cases s with ⟨h, -⟩ | ⟨-, e⟩
  · simp [hopen] at h
  · rcases coverOpen_cases s with ⟨h, -⟩ | ⟨-, e'⟩
    · simp [stopped] at h
    · rw [e, e']

/-- With the cover closed, the sequencer waits 500 ms for it to open (R41). -/
theorem enterWaitOpen_closed {s : State} (closed : s.lines.shutterClosed = true) :
    enterWaitOpen s = { s with seq := { s.seq with
      phase := .waitOpen, shutterTimer := some (s.seq.clock + 500#32) } } := by
  rcases enterWaitOpen_cases s with ⟨-, e⟩ | ⟨h, -⟩
  · exact e
  · simp [closed] at h

/-- Settles O19. -/
theorem pauseStopsARunningSession : Obligations.PauseStopsARunningSession := by
  intro p s quiet long running
  dsimp only
  rw [exec_pause quiet long running]
  refine ⟨⟨_, rfl, ?_⟩, fun waitStart => ?_, fun waitShutter hopen => ?_, fun waitOpen => ?_,
    fun c exposing current => ⟨fun light => ?_, fun dark closed => ?_, fun dark hopen => ?_⟩⟩
  · obtain ⟨hstate, hcause⟩ := sequencerPause_session (enterPaused .request s)
    exact ⟨hstate, hcause, by simp, by simp, by simp, by simp, by simp⟩
  · simp only [pauseSession, sequencerPause, enterPaused_seq, waitStart]
    rfl
  · simp only [pauseSession, sequencerPause, enterPaused_seq, waitShutter]
    rw [enterWaitOpen_stopped (by exact hopen) rfl]
    rfl
  · simp only [pauseSession, sequencerPause, enterPaused_seq, waitOpen]
    rfl
  · simp only [pauseSession, sequencerPause, enterPaused_seq, exposing, current, light]
    rfl
  · simp only [pauseSession, sequencerPause, enterPaused_seq, exposing, current, dark]
    rw [enterWaitOpen_closed (by exact closed)]
    rfl
  · simp only [pauseSession, sequencerPause, enterPaused_seq, exposing, current, dark]
    rw [enterWaitOpen_stopped (by exact hopen) rfl]
    rfl

/-! ## Resume -/

/-- A Resume in PAUSED is DONE whatever the cause (R7). -/
theorem exec_resume {p : SelectPeriod} {s : State} (quiet : QuietTaking p s) (long : 2 ≤ byteCount p)
    (notHold : s.power.state ≠ .hold) (paused : s.session.state = .paused) :
    exec (.resume p) s = .next (answered p 0x04#8 .done [] [] (resumeSession s)) := by
  have judged : unlessHeld judgeResume (taken p s) = plain .done (taken p (resumeSession s)) := by
    simp [unlessHeld_of_not_hold, notHold, judgeResume, paused]
  exact congrArg _ (answer_of_taken quiet long judged)

/-- The limits are judged by the session's items alone, and drain a running session with auto finish set that has met
one (R15, R16). -/
theorem checkLimits_of_met {s : State} (running : s.running = true) (auto : s.plan.autoFinish = true)
    (met : s.plan.subLimit ≤ s.session.totals.subsOpened ∨
      (s.plan.durationLimit ≠ 0 ∧ 60000 * s.plan.durationLimit ≤ s.session.runTime)) :
    checkLimits s = enterDraining .alarm s := by
  have : (s.subLimitMet || s.durationMet) = true := by simpa [State.subLimitMet, State.durationMet] using met
  simp [checkLimits, running, auto, this]

theorem checkLimits_of_unmet {s : State} (h : s.plan.autoFinish = false ∨ ¬(s.plan.subLimit ≤ s.session.totals.subsOpened ∨
      (s.plan.durationLimit ≠ 0 ∧ 60000 * s.plan.durationLimit ≤ s.session.runTime))) : checkLimits s = s := by
  rcases checkLimits_cases s with ⟨-, auto, met, -⟩ | e
  · simp only [State.subLimitMet, State.durationMet, decide_eq_true_eq, Bool.and_eq_true, bne_iff_ne] at met
    rcases h with h | h
    · simp [auto] at h
    · exact absurd met h
  · exact e

/-- The session resumed, before its limits are judged (R7, R30). -/
def resumed (s : State) : State :=
  cadenceAfresh (enterRunning (s.onSession fun x => { x with attempts := 0, movedCount := 0 }))

theorem resumeSession_eq (s : State) : resumeSession s = checkLimits (resumed s) := rfl

/-- The session's items after a Resume, but for its counters, are those it was paused with. -/
theorem resumed_session (s : State) : (resumed s).session = { s.session with
    attempts := 0, movedCount := 0, pauseCause := none
    state := if s.session.referenceSet = true then .integrating else .referencing } := by
  simp only [resumed, cadenceAfresh_session]
  rfl

theorem resumed_running (s : State) : (resumed s).running = true := by
  simp only [running_iff, resumed_session]
  split <;> simp

theorem resumed_plan (s : State) : (resumed s).plan = s.plan := by
  simp only [State.plan, resumed_session]

/-- An answer replaces what a taking leaves on the link. -/
theorem answered_taken (p : SelectPeriod) (code : Byte) (o : ReqOutcome) (fs : List Nat) (d : List Byte) (s : State) :
    answered p code o fs d (taken p s) = answered p code o fs d s := by
  unfold answered taken
  cases p.link <;> rfl

/-- Settles O20: the limits are judged with the plan, the totals and the run time as they stand. -/
theorem resumeReturnsToARunningState : Obligations.ResumeReturnsToARunningState := by
  intro p s quiet long notHold paused
  dsimp only
  rw [exec_resume quiet long notHold paused, resumeSession_eq]
  refine ⟨fun unmet => ?_, fun auto met => ⟨_, ?_, rfl⟩⟩
  · rw [checkLimits_of_unmet]
    · rfl
    · simpa only [resumed_plan, resumed_session] using unmet
  · rw [checkLimits_of_met (resumed_running s)]
    · have drained := enterDraining_taken p (resumed s) .alarm
      exact congrArg _ ((answered_taken p _ _ _ _ _).symm.trans (congrArg (answered p _ _ _ _) drained.symm))
    · rwa [resumed_plan]
    · simpa only [resumed_plan, resumed_session] using met

/-! ## Finish -/

/-- A Finish in a running state or in PAUSED is ACCEPTED, and drains the session (R12). -/
theorem exec_finish {p : SelectPeriod} {s : State} (hp : p.link = .p) (long : 2 ≤ byteCount p)
    (notStandby : s.power.state ≠ .standby) (h : s.running = true ∨ s.session.state = .paused) :
    exec (.finish p) s = .next (answered p 0x05#8 .accepted [] [] (enterDraining .pLink s)) := by
  have judged : onPOnly p judgeFinish (taken p s) = plain .accepted (taken p (enterDraining .pLink s)) := by
    have drains : (s.running || s.session.state == .paused) = true := by simpa using h
    simp [onPOnly_pLink hp, judgeFinish, drains]
  exact congrArg _ (answer_of_taken (quietTaking_pLink hp notStandby) long judged)

/-- The drain check of a session in DRAINING with nothing in flight posts the finish (R13). -/
theorem drainCheck_of_drained {s : State} (c : WakeCause) (h : s.session.state = .draining)
    (drained : ∀ i : Fin 6, s.ring.desc[i].inFlight = false) :
    drainCheck c s = wake c ((enterSession .finishing s).onEngine fun e => { e with finishPending := true }) := by
  have := (Ring.drained_iff s.ring).mpr drained
  simp [drainCheck, h, this]

/-- With a descriptor in flight the drain check does nothing (R13). -/
theorem drainCheck_of_inFlight {s : State} (c : WakeCause) {i : Fin 6} (h : s.ring.desc[i].inFlight = true) :
    drainCheck c s = s := by
  rcases drainCheck_cases c s with ⟨-, drained, -⟩ | ⟨-, e⟩
  · exact absurd (h.symm.trans ((Ring.drained_iff s.ring).mp drained i)) (by decide)
  · exact e

/-- Two entries of the session in one step leave the later state and raise SESSION_STATE once (R159). -/
theorem enterSession_enterSession (a b : SessionState) (s : State) :
    enterSession a (enterSession b s) = enterSession a s := by
  have twice : ∀ l : LinkState, (l.raised .sessionState).raised .sessionState = l.raised .sessionState := fun l => by
    simp [LinkState.raised, LinkState.judged, LinkState.attentionLevel, LinkState.live, BitVec.or_assoc]
  simp [enterSession_eq, raise_eq, twice]

/-- The sequencer's action at a drain, phase by phase (R44). -/
theorem sequencerDrain_eq {s d : State} (stopped : s.running = false)
    (h : (s.seq.phase = .waitStart ∧ d = { s with seq := { s.seq with
        phase := .idle, cadenceTimer := none, keptExpiry := false, wakeAlarm := none } }) ∨
      (s.seq.phase = .waitShutter ∧ s.lines.shutterClosed = false ∧ d = { s with
        lines := { s.lines with shutterClose := false }
        seq := { s.seq with
          phase := .idle, cadenceTimer := none, keptExpiry := false, wakeAlarm := none, shutterTimer := none } }) ∨
      ((s.seq.phase = .exposing ∨ s.seq.phase = .waitOpen ∨ s.seq.phase = .idle) ∧ d = s)) :
    sequencerDrain s = d := by
  rcases h with ⟨phase, rfl⟩ | ⟨phase, hopen, rfl⟩ | ⟨phase | phase | phase, rfl⟩
  · simp only [sequencerDrain, phase]
    rfl
  · simp only [sequencerDrain, phase]
    rw [enterWaitOpen_stopped (by exact hopen) (by exact stopped)]
    rfl
  all_goals simp only [sequencerDrain, phase]

/-- Settles O21. -/
theorem finishDrainsTheSession : Obligations.FinishDrainsTheSession := by
  intro p s d hp long notStandby h
  dsimp only
  intro phase
  rw [exec_finish hp long notStandby h]
  have drained : sequencerDrain (enterSession .draining s) = enterSession .draining d := by
    have stopped : (enterSession .draining s).running = false := rfl
    apply sequencerDrain_eq stopped
    rcases phase with ⟨g, rfl⟩ | ⟨g, hopen, rfl⟩ | ⟨g, rfl⟩
    · exact .inl ⟨by simpa using g, rfl⟩
    · exact .inr (.inl ⟨by simpa using g, by simpa using hopen, rfl⟩)
    · exact .inr (.inr ⟨by simpa using g, rfl⟩)
  have sameRing : d.ring = s.ring ∧ d.session = s.session ∧ d.engine = s.engine := by
    rcases phase with ⟨-, rfl⟩ | ⟨-, -, rfl⟩ | ⟨-, rfl⟩ <;> exact ⟨rfl, rfl, rfl⟩
  obtain ⟨hring, hsession, hengine⟩ := sameRing
  refine ⟨fun nothing => ?_, fun ⟨i, hi⟩ => ?_⟩
  · rw [enterDraining, drained, drainCheck_of_drained _ rfl (by simpa [hring] using nothing), enterSession_enterSession,
      ← hsession, ← hengine]
    rfl
  · rw [enterDraining, drained, drainCheck_of_inFlight _ (i := i) (by simpa [hring] using hi), ← hsession]
    rfl

/-! ## Extend -/

/-- Settles O22. -/
theorem extendReopensAFinishedSession : Obligations.ExtendReopensAFinishedSession := by
  intro p s hp long notStandby notHold finished
  refine ⟨fun below => ?_, fun met => ?_⟩
  · have unmet : s.subLimitMet = false := by simpa [State.subLimitMet] using below
    have judged : onPOnly p (unlessHeld judgeExtend) (taken p s) = plain .done (taken p (extendSession s)) := by
      simp [onPOnly_pLink hp, unlessHeld_of_not_hold, notHold, judgeExtend, finished, unmet]
    exact congrArg _ (answer_of_taken (quietTaking_pLink hp notStandby) long judged)
  · have reached : s.subLimitMet = true := by simpa [State.subLimitMet] using met
    have judged : onPOnly p (unlessHeld judgeExtend) (taken p s) = plain .refusedState (taken p s) := by
      simp [onPOnly_pLink hp, unlessHeld_of_not_hold, notHold, judgeExtend, finished, reached]
    exact congrArg _ (answer_of_taken (quietTaking_pLink hp notStandby) long judged)

/-! ## Close Session -/

/-- A request on the P-link that is a wake in STANDBY, answered with the state that its taking and its judgement give
(R146). -/
theorem answer_pLink {p : SelectPeriod} {s t : State} {code : Byte} {need : Nat} {judge : State → Answer}
    {o : ReqOutcome} {fs : List Nat} {d : List Byte} (hp : p.link = .p) (long : need ≤ byteCount p)
    (h : judge (taken p (standbyWake .pLink s)) = ⟨taken p t, o, fs, d, none⟩) :
    answer code p need judge s = answered p code o fs d t := by
  have : ¬byteCount p < need := by omega
  rw [answer, answerWaking, takeRequest_pLink hp, if_neg this, h, respond_taken]

/-- A wake in STANDBY begins the move to ACTIVE (R146). -/
theorem standbyWake_power {s : State} (h : s.power.state = .standby) (c : WakeCause) :
    (standbyWake c s).power = { s.power with state := .active, changing := true, lastWake := some c } := by
  rcases standbyWake_cases c s with ⟨-, e⟩ | ⟨g, -⟩
  · exact e
  · exact absurd h g

theorem standbyWake_of_not_standby {s : State} (h : s.power.state ≠ .standby) (c : WakeCause) : standbyWake c s = s := by
  rcases standbyWake_cases c s with ⟨g, -⟩ | ⟨-, e⟩
  · exact absurd g h
  · exact e

/-- A wake changes the power items alone, by what they are. -/
theorem wake_eq_power (c : WakeCause) (s : State) : wake c s = { s with power := (wake c s).power } := by
  unfold wake
  split_ifs <;> rfl

theorem wake_power_congr (c : WakeCause) {s t : State} (h : s.power = t.power) : (wake c s).power = (wake c t).power := by
  unfold wake
  rw [h]
  split_ifs <;> simp [h]

/-- A close changes the engine and the results alone, besides what it makes of the rest of the part (R122, R134). -/
theorem engineClose_eq (s : State) :
    engineClose s = { s with engine := (engineClose s).engine, results := (engineClose s).results } := by
  unfold engineClose
  dsimp only
  split_ifs <;> rfl

/-- The markers after a close, and the last preview end (R125, R134). -/
theorem engineClose_results (s : State) : (engineClose s).results = { s.results with
    output := .empty, preview := .empty
    lastPreviewEnd := if s.engine.previewPending = true ∨ s.engine.job = .preview then some .droppedClose
      else s.results.lastPreviewEnd } := by
  have dropped : (s.engine.previewPending || s.engine.job == .preview) = true ↔
      s.engine.previewPending = true ∨ s.engine.job = .preview := by simp
  simp only [engineClose, dropped]
  split_ifs <;> rfl

/-- The part as a close leaves it to the engine's own (R45, R58, R65). -/
def closedSequencer (s : State) : State :=
  (portClose (sequencerClose s)).emptyRing.onRing fun r => { r with lastOpened := 0, lastRetired := 0 }

/-- A Close Session with its components, before the wake that a waiting request makes of it (R17). -/
def closed (s : State) : State :=
  enterSession .idle (((engineClose (closedSequencer s)).onGuidance fun _ => Guidance.cleared).onSession Session.closed)

theorem closed_eq (s : State) : closed s = raise .sessionState { s with
    session := { s.session.closed with state := .idle, pauseCause := none }
    ring := Ring.atReset
    guidance := Guidance.cleared
    seq := (closedSequencer s).seq
    port := (closedSequencer s).port
    lines := (closedSequencer s).lines
    engine := (engineClose (closedSequencer s)).engine
    results := (engineClose (closedSequencer s)).results } := by
  rw [closed, engineClose_eq]
  rfl

theorem closeSession_eq (s : State) : closeSession s =
    { closed s with power := (if s.power.waiting = true then wake .pLink s else s).power } := by
  have power : (closed s).power = s.power := by rw [closed_eq]; rfl
  have whole : closeSession s = if (closed s).power.waiting then wake .pLink (closed s) else closed s := rfl
  rw [whole, power]
  split
  · rw [wake_eq_power, wake_power_congr _ power]
  · rw [← power]

/-- What a Close Session leaves (R17, R45, R58, R65, R68, R122, R125). -/
theorem closeSession_components (s : State) :
    (closeSession s).session = { s.session.closed with state := .idle, pauseCause := none } ∧
    (closeSession s).ring = Ring.atReset ∧ (closeSession s).guidance = Guidance.cleared ∧
    (closeSession s).darks = s.darks ∧ (closeSession s).tileMap = s.tileMap ∧ (closeSession s).dram = s.dram ∧
    (closeSession s).seq = (closedSequencer s).seq ∧ (closeSession s).port = (closedSequencer s).port ∧
    (closeSession s).lines = (closedSequencer s).lines ∧
    (closeSession s).engine = (engineClose (closedSequencer s)).engine ∧
    (closeSession s).results = (engineClose (closedSequencer s)).results := by
  rw [closeSession_eq, closed_eq]
  exact ⟨rfl, rfl, rfl, rfl, rfl, rfl, rfl, rfl, rfl, rfl, rfl⟩

/-- A Close Session outside IDLE is DONE in any power state; in STANDBY its taking has woken the part (R17, R146). -/
theorem exec_closeSession {p : SelectPeriod} {s : State} (hp : p.link = .p) (long : 2 ≤ byteCount p)
    (h : s.session.state ≠ .idle) :
    exec (.closeSession p) s = .next (answered p 0x07#8 .done [] [] (closeSession (standbyWake .pLink s))) := by
  refine congrArg _ (answer_pLink hp long ?_)
  simp [onPOnly_pLink hp, judgeClose, h, plain]

theorem exec_closeSession_idle {p : SelectPeriod} {s : State} (hp : p.link = .p) (long : 2 ≤ byteCount p)
    (h : s.session.state = .idle) :
    exec (.closeSession p) s = .next (answered p 0x07#8 .refusedState [] [] (standbyWake .pLink s)) := by
  refine congrArg _ (answer_pLink hp long ?_)
  simp [onPOnly_pLink hp, judgeClose, h, plain]

/-- The end of the tile in progress at a close frees the engine with none of its job's results (R122). -/
theorem closeStop_of_no_target {s : State} (h : s.darks.mergeTarget = none) : closeStop s = { s with
    engine := { s.engine with job := .none, work := .none, tilesDone := 0, stop := .none }
    darks := { s.darks with inUse := none } } := by
  have kept : giveUpMergeTarget s = s := by simp only [giveUpMergeTarget, h]
  rw [closeStop, kept]
  rfl

/-- It empties the slot of a dark merge (R96). -/
theorem closeStop_of_target {s : State} {k : Fin 4} (h : s.darks.mergeTarget = some k) : closeStop s = { s with
    engine := { s.engine with job := .none, work := .none, tilesDone := 0, stop := .none }
    darks := { s.darks with
      slots := s.darks.slots.set k DarkSlot.emptied, useOrder := s.darks.useOrder.erase k
      mergeTarget := none, inUse := none } } := by
  simp only [closeStop, giveUpMergeTarget, h]
  rfl

/-- The engine works on a tile while a close waits for its end (R122). -/
theorem exec_engineTileComplete_close {s : State} (job : s.engine.job ≠ .none) (stop : s.engine.stop = .close)
    (tile : s.measuring = true ∨ s.engine.tilesDone < s.tileCount) :
    exec .engineTileComplete s = .next (closeStop s) := by
  have working : s.onTile = true := by
    have left : (s.measuring || !s.tilesOver) = true := by simpa [State.tilesOver] using tile
    simp [State.onTile, job, stop, left]
  show Host.Outcome.next _ = _
  simp [working, stop]

/-- Settles O23. -/
theorem closeSessionGivesUpTheSession : Obligations.CloseSessionGivesUpTheSession := by
  refine ⟨fun p s hp long => ?_, fun s job stop tile => ⟨fun none => ?_, fun k target => ?_⟩⟩
  · dsimp only
    refine ⟨fun h => standbyWake_of_not_standby h _, fun h => standbyWake_power h _, exec_closeSession_idle hp long,
      fun h => ⟨_, exec_closeSession hp long h, ?_⟩⟩
    obtain ⟨session, ring, guidance, darks, tileMap, dram, seq, port, lines, engine, results⟩ :=
      closeSession_components (standbyWake .pLink s)
    have sameEngine : (closedSequencer (standbyWake .pLink s)).engine = s.engine := standbyWake_engine s _
    have sameResults : (closedSequencer (standbyWake .pLink s)).results = s.results := standbyWake_results s _
    have waiting : (standbyWake .pLink s).power.waiting = s.power.waiting := by
      rcases standbyWake_cases .pLink s with ⟨-, e⟩ | ⟨-, e⟩ <;> rw [e]
    refine ⟨?_, ring, guidance, ?_, ?_, ?_, dram, ?_, ?_, ?_, ⟨fun h => ?_, fun h => ?_⟩, ?_, ?_, ?_⟩
    · rw [session, standbyWake_session]
      rfl
    · rw [darks, standbyWake_darks]
    · rw [tileMap, standbyWake_tileMap]
    · rw [closeSession_eq, waiting]
    · rw [seq]
      simp [closedSequencer, portClose, sequencerClose, enterIdle]
    · rw [port]
      simp [closedSequencer, portClose, sequencerClose, enterIdle] <;> rfl
    · rw [lines]
      simp [closedSequencer, portClose, sequencerClose, enterIdle]
    · rw [engine]
      rcases engineClose_cases (closedSequencer (standbyWake .pLink s)) with ⟨-, e⟩ | ⟨g, -⟩
      · rw [e, sameEngine]
      · rw [← sameEngine, ← tileless_iff, g] at h
        cases h
    · rw [engine]
      rcases engineClose_cases (closedSequencer (standbyWake .pLink s)) with ⟨g, -⟩ | ⟨-, e⟩
      · rw [← sameEngine, ← tileless_iff, g] at h
        exact absurd rfl h
      · rw [e, sameEngine]
    all_goals rw [results, engineClose_results, sameEngine, sameResults]
  · rw [exec_engineTileComplete_close job stop tile, closeStop_of_no_target none]
  · rw [exec_engineTileComplete_close job stop tile, closeStop_of_target target]

end Sys2Proof.Proofs.SessionRequests
end

section
/-! PROOFS. The requests that write settings and tables: Write Plan, Select Plan, Set Part Settings, Configure Sensor,
Clear Dark Slot and Write Tiles. -/

namespace Sys2Proof.Proofs.SettingsRequests

open Sys2Proof.Machine Sys2Proof.Safety Sys2Proof.Proofs.Taking

-- The declarations are elaborated one after another, which keeps the check of the whole text within its memory.
set_option Elab.async false

/-! ## Fields of a request -/

theorem fieldU8_lt (p : SelectPeriod) (k : Nat) : fieldU8 p k < 256 := (p.bytes.getD (k - 1) 0).isLt

theorem fieldU16_lt (p : SelectPeriod) (k : Nat) : fieldU16 p k < 65536 := by
  have := fieldU8_lt p k
  have := fieldU8_lt p (k + 1)
  unfold fieldU16
  omega

/-- A number is brought to the nearer end of its range (R20). -/
theorem clampNat_eq {lo hi : Nat} (h : lo ≤ hi) (x : Nat) : clampNat x lo hi = max lo (min x hi) := by
  unfold clampNat
  split_ifs <;> omega

theorem numericField_fst {lo hi : Nat} (h : lo ≤ hi) (k x : Nat) : (numericField k x lo hi).1 = max lo (min x hi) :=
  clampNat_eq h x

/-- The offset of a field that was changed, from a flag that says whether it was. -/
def offsetIf (k : Nat) (changed : Bool) : List Nat := if changed then [k] else []

theorem numericField_raw (k x lo hi : Nat) :
    numericField k x lo hi = (clampNat x lo hi, offsetIf k (clampNat x lo hi != x)) := by
  by_cases e : clampNat x lo hi = x <;> simp [numericField, offsetIf, e]

theorem numericField_snd {lo hi : Nat} (h : lo ≤ hi) (k x : Nat) :
    (numericField k x lo hi).2 = offsetIf k (max lo (min x hi) != x) := by
  rw [numericField_raw, clampNat_eq h]

/-- A field whose range is that of its bytes is not changed (R20). -/
theorem numericField_full {hi : Nat} {x : Nat} (h : x ≤ hi) (k : Nat) : numericField k x 0 hi = (x, []) := by
  have : clampNat x 0 hi = x := by
    unfold clampNat
    split_ifs <;> omega
  simp [numericField, this]

theorem codedField_fst {α : Type} (k : Nat) (o : Option α) (d : α) : (codedField k o d).1 = o.getD d := by
  cases o <;> rfl

theorem codedField_snd {α : Type} (k : Nat) (o : Option α) (d : α) : (codedField k o d).2 = offsetIf k o.isNone := by
  cases o <;> rfl

/-- The offsets of the fields that were changed, in their order. -/
def changedOffsets (l : List (Nat × Bool)) : List Nat := (l.filter Prod.snd).map Prod.fst

theorem changedOffsets_cons (k : Nat) (b : Bool) (l : List (Nat × Bool)) :
    changedOffsets ((k, b) :: l) = offsetIf k b ++ changedOffsets l := by
  cases b <;> simp [changedOffsets, offsetIf]

theorem changedOffsets_nil : changedOffsets [] = [] := rfl

/-- A judgement that writes and names the fields that it changed (R155, R168). -/
theorem answer_doneOrClamped {p : SelectPeriod} {s t : State} {code : Byte} {need : Nat} {judge : State → Answer}
    {fs : List Nat} (quiet : QuietTaking p s) (long : need ≤ byteCount p)
    (h : judge (taken p s) = doneOrClamped fs [] (taken p t)) :
    answer code p need judge s = answered p code (if fs = [] then .done else .doneClamped) fs [] t := by
  refine answer_of_taken quiet long (h.trans ?_)
  simp only [doneOrClamped, List.isEmpty_iff]

/-! ## Write Plan (R19, R20, R170) -/

/-- The record written, with the offsets changed, as the fields of the request give them. -/
theorem clampedPlan_eq (p : SelectPeriod) :
    let num := fun raw lo hi : Nat => max lo (min raw hi)
    let mode := triggerModeNamed (fieldU8 p 11)
    let finish := boolNamed (fieldU8 p 16)
    let doze := boolNamed (fieldU8 p 32)
    let hold := boolNamed (fieldU8 p 33)
    let plan : Plan := {
      subLength := num (fieldU32 p 3) 500 900000, gap := num (fieldU32 p 7) 0 600000
      triggerMode := mode.getD .timed, subLimit := num (fieldU16 p 12) 1 65535
      durationLimit := num (fieldU16 p 14) 0 1440, autoFinish := finish.getD true
      darkCadence := fieldU8 p 17, darkMinimum := num (fieldU8 p 18) 1 64
      blackLevel := num (fieldU16 p 19) 0 4095, rejectK := num (fieldU8 p 21) 16 160
      rejectMin := num (fieldU8 p 22) 3 64, floorVariance := fieldU16 p 23
      starThreshold := num (fieldU16 p 25) 16 16383, windowRadius := num (fieldU8 p 27) 4 32
      driftLimit := num (fieldU16 p 28) 16 1024, outputPedestal := num (fieldU16 p 30) 0 4095
      autoDoze := doze.getD true, resumeAfterHold := hold.getD true }
    clampedPlan p = (plan, changedOffsets [(3, plan.subLength != fieldU32 p 3), (7, plan.gap != fieldU32 p 7),
      (11, mode.isNone), (12, plan.subLimit != fieldU16 p 12), (14, plan.durationLimit != fieldU16 p 14),
      (16, finish.isNone), (18, plan.darkMinimum != fieldU8 p 18), (19, plan.blackLevel != fieldU16 p 19),
      (21, plan.rejectK != fieldU8 p 21), (22, plan.rejectMin != fieldU8 p 22),
      (25, plan.starThreshold != fieldU16 p 25), (27, plan.windowRadius != fieldU8 p 27),
      (28, plan.driftLimit != fieldU16 p 28), (30, plan.outputPedestal != fieldU16 p 30),
      (32, doze.isNone), (33, hold.isNone)]) := by
  have cadence := numericField_full (Nat.le_of_lt_succ (fieldU8_lt p 17)) 17
  have floor := numericField_full (Nat.le_of_lt_succ (fieldU16_lt p 23)) 23
  simp only [clampedPlan, cadence, floor, codedField_fst, codedField_snd, changedOffsets_cons, changedOffsets_nil,
    List.append_nil, List.append_assoc]
  simp only [numericField_fst (show 500 ≤ 900000 by decide), numericField_snd (show 500 ≤ 900000 by decide),
    numericField_fst (Nat.zero_le _), numericField_snd (Nat.zero_le _), numericField_fst (show 1 ≤ 65535 by decide),
    numericField_snd (show 1 ≤ 65535 by decide), numericField_fst (show 1 ≤ 64 by decide),
    numericField_snd (show 1 ≤ 64 by decide), numericField_fst (show 16 ≤ 160 by decide),
    numericField_snd (show 16 ≤ 160 by decide), numericField_fst (show 3 ≤ 64 by decide),
    numericField_snd (show 3 ≤ 64 by decide), numericField_fst (show 16 ≤ 16383 by decide),
    numericField_snd (show 16 ≤ 16383 by decide), numericField_fst (show 4 ≤ 32 by decide),
    numericField_snd (show 4 ≤ 32 by decide), numericField_fst (show 16 ≤ 1024 by decide),
    numericField_snd (show 16 ≤ 1024 by decide)]

/-- A Write Plan into a slot that the session does not hold locked writes its record, brought into range (R20). -/
theorem exec_writePlan {p : SelectPeriod} {s : State} (hp : p.link = .p) (notStandby : s.power.state ≠ .standby)
    {i : Fin 4} (hi : fieldU8 p 2 = i.val) (long : 34 ≤ byteCount p)
    (unlocked : s.planLocked = false ∨ (s.session.activePlan ≠ i ∧ s.session.pendingPlan ≠ some i)) :
    exec (.writePlan p) s = .next (answered p 0x08#8
      (if (clampedPlan p).2 = [] then .done else .doneClamped) (clampedPlan p).2 []
      { s with session := { s.session with plans := s.session.plans.set i (clampedPlan p).1 } }) := by
  have judged : onPOnly p (judgeWritePlan p) (taken p s) = doneOrClamped (clampedPlan p).2 []
      (taken p (s.onSession fun x => { x with plans := x.plans.set i (clampedPlan p).1 })) := by
    have free : (s.planLocked && (s.session.activePlan == i || s.session.pendingPlan == some i)) = false := by
      rcases unlocked with h | ⟨h, g⟩
      · simp [h]
      · simp [h, g]
    simp only [onPOnly_pLink hp, judgeWritePlan, indexNamed_of_lt hi, taken_planLocked, taken_session, free,
      taken_onSession]
    rfl
  exact congrArg _ (answer_doneOrClamped (quietTaking_pLink hp notStandby) long judged)

/-- A byte that a period carries is read back, and the rest of the record follows it. -/
theorem fieldU8_of_drop {p : SelectPeriod} {k n : Nat} {rest : List Byte} (h : p.bytes.drop k = u8 n ++ rest)
    (small : n < 256) : fieldU8 p (k + 1) = n ∧ p.bytes.drop (k + 1) = rest := by
  have head : p.bytes[k]? = some (BitVec.ofNat 8 n) := by
    rw [← List.head?_drop, h]
    rfl
  refine ⟨?_, ?_⟩
  · simp [fieldU8, head, Nat.mod_eq_of_lt small]
  · rw [← List.drop_drop, h]
    rfl

theorem fieldU16_of_drop {p : SelectPeriod} {k n : Nat} {rest : List Byte} (h : p.bytes.drop k = u16 n ++ rest)
    (small : n < 65536) : fieldU16 p (k + 1) = n ∧ p.bytes.drop (k + 2) = rest := by
  have bytes : u16 n ++ rest = u8 (n % 256) ++ (u8 (n / 256) ++ rest) := by
    simp only [u16, u8, littleEndian, List.cons_append, List.nil_append, List.cons.injEq, and_true]
    exact BitVec.eq_of_toNat_eq (by simp)
  rw [bytes] at h
  obtain ⟨low, h⟩ := fieldU8_of_drop h (Nat.mod_lt _ (by decide))
  obtain ⟨high, h⟩ := fieldU8_of_drop h (by omega)
  refine ⟨?_, h⟩
  rw [fieldU16, low, high]
  omega

theorem fieldU32_of_drop {p : SelectPeriod} {k n : Nat} {rest : List Byte} (h : p.bytes.drop k = u32 n ++ rest)
    (small : n < 4294967296) : fieldU32 p (k + 1) = n ∧ p.bytes.drop (k + 4) = rest := by
  have bytes : u32 n ++ rest = u16 (n % 65536) ++ (u16 (n / 65536) ++ rest) := by
    simp [u32, u16, littleEndian, Nat.div_div_eq_div_mul]
    constructor
    · exact BitVec.eq_of_toNat_eq (by simp)
    · refine BitVec.eq_of_toNat_eq ?_
      simp only [BitVec.toNat_ofNat]
      omega
  rw [bytes] at h
  obtain ⟨low, h⟩ := fieldU16_of_drop h (Nat.mod_lt _ (by decide))
  obtain ⟨high, h⟩ := fieldU16_of_drop h (by omega)
  refine ⟨?_, h⟩
  rw [fieldU32, low, high]
  omega

theorem boolNamed_flagCode (b : Bool) : boolNamed (if b then 1 else 0) = some b := by
  cases b <;> rfl

theorem flagCode_lt (b : Bool) : (if b then 1 else 0) < 256 := by
  cases b <;> decide

theorem triggerModeNamed_code (m : TriggerMode) : triggerModeNamed (triggerModeCode m) = some m := by
  cases m <;> rfl

theorem triggerModeCode_lt (m : TriggerMode) : triggerModeCode m < 256 := by
  cases m <;> decide

theorem nearest_of_mem {lo hi x : Nat} (low : lo ≤ x) (high : x ≤ hi) : max lo (min x hi) = x := by
  omega

/-- A plan in range is read back from its record: no field is changed (R19, R170). -/
theorem clampedPlan_of_record {p : SelectPeriod} {plan : Plan} (inRange : PlanInRange plan)
    (h : p.bytes.drop 2 = planRecord plan) : clampedPlan p = (plan, []) := by
  obtain ⟨subLow, subHigh, gap, limLow, limHigh, duration, cadence, minLow, minHigh, black, kLow, kHigh, rLow, rHigh,
    floor, thLow, thHigh, wLow, wHigh, driftLow, driftHigh, pedestal⟩ := inRange
  rw [← List.append_nil (planRecord plan)] at h
  simp only [planRecord, flag, List.append_assoc] at h
  obtain ⟨f3, h⟩ := fieldU32_of_drop h (by omega)
  obtain ⟨f7, h⟩ := fieldU32_of_drop h (by omega)
  obtain ⟨f11, h⟩ := fieldU8_of_drop h (triggerModeCode_lt _)
  obtain ⟨f12, h⟩ := fieldU16_of_drop h (by omega)
  obtain ⟨f14, h⟩ := fieldU16_of_drop h (by omega)
  obtain ⟨f16, h⟩ := fieldU8_of_drop h (flagCode_lt _)
  obtain ⟨f17, h⟩ := fieldU8_of_drop h (by omega)
  obtain ⟨f18, h⟩ := fieldU8_of_drop h (by omega)
  obtain ⟨f19, h⟩ := fieldU16_of_drop h (by omega)
  obtain ⟨f21, h⟩ := fieldU8_of_drop h (by omega)
  obtain ⟨f22, h⟩ := fieldU8_of_drop h (by omega)
  obtain ⟨f23, h⟩ := fieldU16_of_drop h (by omega)
  obtain ⟨f25, h⟩ := fieldU16_of_drop h (by omega)
  obtain ⟨f27, h⟩ := fieldU8_of_drop h (by omega)
  obtain ⟨f28, h⟩ := fieldU16_of_drop h (by omega)
  obtain ⟨f30, h⟩ := fieldU16_of_drop h (by omega)
  obtain ⟨f32, h⟩ := fieldU8_of_drop h (flagCode_lt _)
  obtain ⟨f33, -⟩ := fieldU8_of_drop h (flagCode_lt _)
  rw [clampedPlan_eq]
  simp only [f3, f7, f11, f12, f14, f16, f17, f18, f19, f21, f22, f23, f25, f27, f28, f30, f32, f33,
    triggerModeNamed_code, boolNamed_flagCode, nearest_of_mem subLow subHigh, nearest_of_mem (Nat.zero_le _) gap,
    nearest_of_mem limLow limHigh, nearest_of_mem (Nat.zero_le _) duration, nearest_of_mem minLow minHigh,
    nearest_of_mem (Nat.zero_le _) black, nearest_of_mem kLow kHigh, nearest_of_mem rLow rHigh,
    nearest_of_mem thLow thHigh, nearest_of_mem wLow wHigh, nearest_of_mem driftLow driftHigh,
    nearest_of_mem (Nat.zero_le _) pedestal]
  simp [changedOffsets]

/-- A slot that the session holds locked is not written (R20). -/
theorem exec_writePlan_locked {p : SelectPeriod} {s : State} (hp : p.link = .p) (notStandby : s.power.state ≠ .standby)
    {i : Fin 4} (hi : fieldU8 p 2 = i.val) (long : 34 ≤ byteCount p) (locked : s.planLocked = true)
    (held : s.session.activePlan = i ∨ s.session.pendingPlan = some i) :
    exec (.writePlan p) s = .next (answered p 0x08#8 .refusedState [] [] s) := by
  have judged : onPOnly p (judgeWritePlan p) (taken p s) = plain .refusedState (taken p s) := by
    have : (s.planLocked && (s.session.activePlan == i || s.session.pendingPlan == some i)) = true := by
      simpa [locked] using held
    simp [onPOnly_pLink hp, judgeWritePlan, indexNamed_of_lt hi, this]
  exact congrArg _ (answer_of_taken (quietTaking_pLink hp notStandby) long judged)

/-! ## Select Plan (R22) -/

/-- A Select Plan of a slot takes effect at once, or is staged (R22). -/
theorem exec_selectPlan {p : SelectPeriod} {s : State} (quiet : QuietTaking p s) (long : 3 ≤ byteCount p)
    {i : Fin 4} (hi : fieldU8 p 2 = i.val) :
    exec (.selectPlan p) s = .next (answered p 0x0a#8 .done [] []
      (if s.planLocked then stagePlan i s else selectNow i s)) := by
  refine congrArg _ (answer_of_taken quiet long ?_)
  simp [judgeSelectPlan, indexNamed_of_lt hi, plain, apply_ite (taken p)]

/-- Settles O24. -/
theorem planRequestsWriteAndSelect : Obligations.PlanRequestsWriteAndSelect := by
  refine ⟨fun p s quiet => ⟨fun long hp => ?_, fun long hp hi => ?_, fun long hi => ?_, fun long i hi =>
    ⟨fun unlocked changed => ?_, fun same => ?_, fun locked changed => ?_⟩⟩, fun p s hp notStandby i hi =>
    ⟨fun plan inRange record unlocked => ?_, fun long locked held => exec_writePlan_locked hp notStandby hi long locked held,
      fun long unlocked => ?_⟩⟩
  · refine congrArg _ (answer_of_taken quiet long ?_)
    rw [onPOnly_sLink hp]
    rfl
  · refine congrArg _ (answer_of_taken quiet long ?_)
    rw [onPOnly_pLink hp, judgeWritePlan, indexNamed_of_ge hi]
    rfl
  · refine congrArg _ (answer_of_taken quiet long ?_)
    rw [judgeSelectPlan, indexNamed_of_ge hi]
    rfl
  · rw [exec_selectPlan quiet long hi]
    simp [unlocked, selectNow, changed, State.onSession]
  · rw [exec_selectPlan quiet long hi]
    cases locked : s.planLocked
    · simp [selectNow, same, State.onSession]
    · simp [stagePlan, same, State.onSession]
  · rw [exec_selectPlan quiet long hi]
    simp [locked, stagePlan, changed, State.onSession]
  · have long : 34 ≤ byteCount p := by
      have := congrArg List.length record
      simp [planRecord] at this
      simp only [byteCount]
      omega
    rw [exec_writePlan hp notStandby hi long (.inl unlocked), clampedPlan_of_record inRange record]
    rfl
  · have written := exec_writePlan hp notStandby hi long unlocked
    rw [clampedPlan_eq] at written
    exact written

/-! ## Part settings and the sensor (R25, R49) -/

/-- A side goes to the nearer end of its range, and down to a multiple of 64 within it (R49). -/
theorem clampedSide_eq {lo hi : Nat} (hlo : lo % 64 = 0) (hhi : hi % 64 = 0) (raw : Nat) :
    clampedSide raw lo hi = if raw < lo then lo else if hi < raw then hi else raw / 64 * 64 := by
  unfold clampedSide clampNat
  split_ifs <;> omega

theorem sideField_snd (k raw lo hi : Nat) :
    (sideField k raw lo hi).2 = offsetIf k (clampedSide raw lo hi != raw) := by
  by_cases e : clampedSide raw lo hi = raw <;> simp [sideField, offsetIf, e]

/-- A lane count other than 2 and 4 is 4 (R49). -/
theorem lanesNamed_eq (n : Nat) :
    (lanesNamed n).getD 4 = (if n = 2 ∨ n = 4 then n else 4) ∧
      (lanesNamed n).isNone = ((if n = 2 ∨ n = 4 then n else 4) != n) := by
  unfold lanesNamed
  by_cases h : n = 2 ∨ n = 4
  · simp [h]
  · have : ¬4 = n := by omega
    simp [h, this]

/-- Settles O25. -/
theorem idleRequestsWriteTheSettings : Obligations.IdleRequestsWriteTheSettings := by
  intro p s hp notStandby idle
  have quiet := quietTaking_pLink hp notStandby
  refine ⟨fun long => ?_, fun long => ?_⟩
  · have judged : onPOnly p (judgeSetPartSettings p) (taken p s) = doneOrClamped
        (changedOffsets [(2, clampNat (fieldU8 p 2) 5 120 != fieldU8 p 2), (3, (boolNamed (fieldU8 p 3)).isNone)]) []
        (taken p (s.onSession fun x => { x with
          holdReserve := clampNat (fieldU8 p 2) 5 120, remoteWake := (boolNamed (fieldU8 p 3)).getD true })) := by
      simp only [onPOnly_pLink hp, judgeSetPartSettings, taken_session, idle, beq_self_eq_true, if_true,
        codedField_fst, codedField_snd, numericField_raw, changedOffsets_cons, changedOffsets_nil, List.append_nil,
        taken_onSession]
    exact congrArg _ (answer_doneOrClamped quiet long judged)
  · obtain ⟨lanes, lanesChanged⟩ := lanesNamed_eq (fieldU8 p 7)
    have judged : onPOnly p (judgeConfigureSensor p) (taken p s) = doneOrClamped
        (changedOffsets [(2, clampedSide (fieldU16 p 2) 1024 6144 != fieldU16 p 2),
          (4, clampedSide (fieldU16 p 4) 768 4096 != fieldU16 p 4), (6, (bayerNamed (fieldU8 p 6)).isNone),
          (7, (if fieldU8 p 7 = 2 ∨ fieldU8 p 7 = 4 then fieldU8 p 7 else 4) != fieldU8 p 7)]) []
        (taken p (configureSensor (clampedSide (fieldU16 p 2) 1024 6144) (clampedSide (fieldU16 p 4) 768 4096)
          ((bayerNamed (fieldU8 p 6)).getD .rggb) (if fieldU8 p 7 = 2 ∨ fieldU8 p 7 = 4 then fieldU8 p 7 else 4) s)) := by
      simp only [onPOnly_pLink hp, judgeConfigureSensor, taken_session, idle, beq_self_eq_true, if_true,
        codedField_fst, codedField_snd, sideField_snd, lanes, lanesChanged, changedOffsets_cons, changedOffsets_nil,
        List.append_nil, List.append_assoc, configureSensor_taken]
      simp only [sideField]
    have answer := answer_doneOrClamped (code := 0x0f#8) quiet long judged
    simp only [clampedSide_eq (show 1024 % 64 = 0 by decide) (show 6144 % 64 = 0 by decide),
      clampedSide_eq (show 768 % 64 = 0 by decide) (show 4096 % 64 = 0 by decide)] at answer
    exact congrArg _ answer

/-! ## Clear Dark Slot (R97) -/

/-- Settles O27. -/
theorem clearDarkSlotEmptiesTheSlot : Obligations.ClearDarkSlotEmptiesTheSlot := by
  intro p s hp notStandby long
  have quiet := quietTaking_pLink hp notStandby
  refine ⟨fun hi => ?_, fun i hi => ⟨fun used => ?_, fun notTarget notUsed => ?_⟩⟩
  · refine congrArg _ (answer_of_taken quiet long ?_)
    rw [onPOnly_pLink hp, judgeClearDarkSlot, indexNamed_of_ge hi]
    rfl
  · have judged : onPOnly p (judgeClearDarkSlot p) (taken p s) = plain .busy (taken p s) := by
      simp [onPOnly_pLink hp, judgeClearDarkSlot, indexNamed_of_lt hi, used]
    exact congrArg _ (answer_of_taken quiet long judged)
  · have judged : onPOnly p (judgeClearDarkSlot p) (taken p s) = plain .done (taken p (emptySlot i s)) := by
      simp [onPOnly_pLink hp, judgeClearDarkSlot, indexNamed_of_lt hi, notTarget, notUsed]
    exact congrArg _ (answer_of_taken quiet long judged)

/-! ## Write Tiles (R104, R177) -/

/-- The entry written for a carried one, and whether that changed it (R104). -/
theorem carriedEntry_eq (p : SelectPeriod) (k : Nat) :
    (carriedEntry p k).1 = ⟨(tileClassNamed (fieldU8 p (6 + 2 * k))).getD .sky, min (fieldU8 p (7 + 2 * k)) 16⟩ ∧
      ((carriedEntry p k).2 = true ↔ 3 ≤ fieldU8 p (6 + 2 * k) ∨ 16 < fieldU8 p (7 + 2 * k)) := by
  unfold carriedEntry clampedEntry
  generalize fieldU8 p (6 + 2 * k) = code
  match code with
  | 0 => simp [tileClassNamed]
  | 1 => simp [tileClassNamed]
  | 2 => simp [tileClassNamed]
  | n + 3 => simp [tileClassNamed]

/-- The run of entries written (R104). -/
def writtenTiles (p : SelectPeriod) (s : State) : Region TileEntry :=
  regionWriteRun TileEntry.default s.tileMap (fieldU16 p 2)
    ((List.range (min (fieldU16 p 4) (s.tileCount - fieldU16 p 2))).map fun k => (carriedEntry p k).1)

/-- Each written entry stands at its tile, and every other tile keeps its own (R104). -/
theorem regionRead_writtenTiles {p : SelectPeriod} {s : State} (wf : regionWf TileEntry.default s.tileMap = true)
    (k : Nat) : regionRead TileEntry.default (writtenTiles p s) k =
      if fieldU16 p 2 ≤ k ∧ k < fieldU16 p 2 + min (fieldU16 p 4) (s.tileCount - fieldU16 p 2) then
        (carriedEntry p (k - fieldU16 p 2)).1
      else regionRead TileEntry.default s.tileMap k := by
  rw [writtenTiles, regionRead_regionWriteRun _ _ _ wf]
  by_cases low : fieldU16 p 2 ≤ k
  · by_cases high : k < fieldU16 p 2 + min (fieldU16 p 4) (s.tileCount - fieldU16 p 2)
    · have : k - fieldU16 p 2 < min (fieldU16 p 4) (s.tileCount - fieldU16 p 2) := by omega
      simp [low, high, List.getElem?_map, List.getElem?_range this]
    · have : min (fieldU16 p 4) (s.tileCount - fieldU16 p 2) ≤ k - fieldU16 p 2 := by omega
      simp only [low, high, and_false, if_true, if_false]
      rw [List.getElem?_eq_none (by simpa using this)]
      rfl
  · simp [low]

theorem judgeWriteTiles_permitted {p : SelectPeriod} {s : State}
    (h : s.session.state = .idle ∨ s.session.state = .armed)
    (inRange : writeTilesOutOfRange (fieldU16 p 2) (fieldU16 p 4) s.tileCount = []) :
    judgeWriteTiles p (taken p s) = writeTiles p (fieldU16 p 2) (fieldU16 p 4) (taken p s) := by
  have : (s.session.state == .idle || s.session.state == .armed) = true := by simpa using h
  simp only [judgeWriteTiles, taken_session, taken_tileCount, this, if_true, inRange]

/-- A field out of range refuses the request (R104). -/
theorem judgeWriteTiles_refused {p : SelectPeriod} {s : State}
    (h : s.session.state = .idle ∨ s.session.state = .armed) {field : Nat} {fields : List Nat}
    (out : writeTilesOutOfRange (fieldU16 p 2) (fieldU16 p 4) s.tileCount = field :: fields) :
    judgeWriteTiles p (taken p s) = refusedRange (field :: fields) (taken p s) := by
  have : (s.session.state == .idle || s.session.state == .armed) = true := by simpa using h
  simp only [judgeWriteTiles, taken_session, taken_tileCount, this, if_true, out]

/-- What a Write Tiles with fields in range writes and answers (R104, R177). -/
theorem writeTiles_taken (p : SelectPeriod) (s : State) :
    let first := fieldU16 p 2
    let n := min (fieldU16 p 4) (s.tileCount - first)
    let changed := (List.range n).filter fun k => (carriedEntry p k).2
    writeTiles p first (fieldU16 p 4) (taken p s) = ⟨taken p { s with tileMap := writtenTiles p s },
      if n = fieldU16 p 4 ∧ (∀ k < n, (carriedEntry p k).2 = false) then .done else .doneClamped, [],
      u16 n ++ u16 changed.length ++ changed.flatMap (fun k => u16 (first + k)), none⟩ := by
  dsimp only [writeTiles]
  simp only [taken_tileCount, List.map_map, List.filter_eq_nil_iff, List.mem_range, Bool.not_eq_true, taken_onTileMap]
  rfl

/-- Settles O28. -/
theorem writeTilesWritesARunOfEntries : Obligations.WriteTilesWritesARunOfEntries := by
  refine ⟨fun p s hp notStandby permitted wf first count long => ?_, fun p s hp notStandby permitted long =>
    ⟨fun first count => ?_, fun first count => ?_, fun first count => ?_⟩⟩
  · refine ⟨{ s with tileMap := writtenTiles p s }, ?_, rfl,
      regionRead_writtenTiles ((StepLaws.memoryWf_iff s).mp wf).2, carriedEntry_eq p⟩
    refine congrArg _ (answer_of_taken (quietTaking_pLink hp notStandby) long ?_)
    have inRange : writeTilesOutOfRange (fieldU16 p 2) (fieldU16 p 4) s.tileCount = [] := by
      simp only [writeTilesOutOfRange, if_neg (Nat.not_le.mpr first), if_neg (Nat.pos_iff_ne_zero.mp count)]
      rfl
    rw [onPOnly_pLink hp, judgeWriteTiles_permitted permitted inRange]
    exact writeTiles_taken p s
  all_goals
    refine congrArg _ (answer_of_taken (quietTaking_pLink hp notStandby) long ?_)
    rw [onPOnly_pLink hp]
  · refine judgeWriteTiles_refused permitted ?_
    rw [writeTilesOutOfRange, if_pos first, if_neg (Nat.pos_iff_ne_zero.mp count)]
    rfl
  · refine judgeWriteTiles_refused permitted ?_
    rw [writeTilesOutOfRange, if_neg (Nat.not_le.mpr first), if_pos count]
    rfl
  · refine judgeWriteTiles_refused permitted ?_
    rw [writeTilesOutOfRange, if_pos first, if_pos count]
    rfl

end Sys2Proof.Proofs.SettingsRequests
end

section
/-! PROOFS. The bytes of responses: where a record carries its fields (R169), and the reads that answer with records. -/

namespace Sys2Proof.Proofs.ResponseRecords

open Sys2Proof.Machine Sys2Proof.Safety Sys2Proof.Proofs.Taking

-- The declarations are elaborated one after another, which keeps the check of the whole text within its memory.
set_option Elab.async false

/-! ## Fields of a payload -/

/-- Parts that stand one after another from a place on, each with its offset. -/
def placed : Nat → List (List Byte) → List (Nat × List Byte)
  | _, [] => []
  | k, part :: parts => (k, part) :: placed (k + part.length) parts

/-- A payload carries the parts that it is made of, each at its offset. -/
theorem carriesFields_placed (before : List Byte) (parts : List (List Byte)) (after : List Byte) :
    CarriesFields (before ++ (parts.flatten ++ after)) (placed before.length parts) := by
  induction parts generalizing before with
  | nil => exact carriesFields_nil _
  | cons part parts ih =>
    refine (carriesFields_cons _ _ _ _).mpr ⟨by simp, ?_⟩
    have := ih (before ++ part)
    rwa [List.length_append, List.append_assoc, ← List.append_assoc part, ← List.flatten_cons] at this

/-- A payload made of the fields of a list, between other parts, carries that list when its offsets are theirs. -/
theorem carriesFields_of_parts {payload : List Byte} {fields : List (Nat × List Byte)} (before after : List Byte)
    (laid : payload = before ++ ((fields.map Prod.snd).flatten ++ after))
    (offsets : placed before.length (fields.map Prod.snd) = fields) : CarriesFields payload fields := by
  rw [laid, ← offsets]
  simpa [offsets] using carriesFields_placed before (fields.map Prod.snd) after

/-- What a part of a payload carries the payload carries, so much further on. -/
theorem carriesFields_within {part : List Byte} {fields : List (Nat × List Byte)} (h : CarriesFields part fields)
    {before : List Byte} {n : Nat} (length : before.length = n) (after : List Byte) :
    CarriesFields (before ++ (part ++ after)) (fields.map fun f => (n + f.1, f.2)) := by
  subst length
  intro field hf
  obtain ⟨⟨k, f⟩, mem, rfl⟩ := List.mem_map.mp hf
  have carried : (part.drop k).take f.length = f := h _ mem
  have fits : f.length ≤ (part.drop k).length := by
    have := congrArg List.length carried
    rw [List.length_take] at this
    omega
  change ((before ++ (part ++ after)).drop (before.length + k)).take f.length = f
  rw [← List.drop_drop, List.drop_left, List.drop_append, List.take_append_of_le_length fits]
  exact carried

/-- The entry at a place of a table of entries of one width, with what stands before it and after it. -/
theorem flatMap_split {α : Type} {enc : α → List Byte} {width : Nat} (widths : ∀ a, (enc a).length = width)
    {l : List α} {k : Nat} {a : α} (h : l[k]? = some a) :
    ∃ before after, before.length = width * k ∧ l.flatMap enc = before ++ (enc a ++ after) := by
  obtain ⟨inside, rfl⟩ := List.getElem?_eq_some_iff.mp h
  refine ⟨(l.take k).flatMap enc, (l.drop (k + 1)).flatMap enc, ?_, ?_⟩
  · rw [flatMap_length_of enc width widths, List.length_take_of_le inside.le, Nat.mul_comm]
  · rw [← List.flatMap_cons, ← List.flatMap_append, ← List.drop_eq_getElem_cons inside, List.take_append_drop]

theorem finRange_getElem? {n : Nat} (i : Fin n) : (List.finRange n)[i.val]? = some i := by
  simp

/-- A byte of a payload, as a field of one byte. -/
theorem getElem?_of_carriesFields {payload : List Byte} {fields : List (Nat × List Byte)}
    (h : CarriesFields payload fields) {k : Nat} {b : Byte} (mem : (k, [b]) ∈ fields) : payload[k]? = some b := by
  have head : ((payload.drop k).take 1).head? = some b := congrArg List.head? (h _ mem)
  simpa [List.head?_take] using head

/-! ## Records (R170, R172, R174, R175) -/

theorem planRecord_fields (x : Plan) : CarriesFields (planRecord x) [(0, u32 x.subLength), (4, u32 x.gap),
    (8, u8 (triggerModeCode x.triggerMode)),
    (9, u16 x.subLimit), (11, u16 x.durationLimit), (13, flag x.autoFinish), (14, u8 x.darkCadence), (15, u8 x.darkMinimum),
    (16, u16 x.blackLevel), (18, u8 x.rejectK), (19, u8 x.rejectMin), (20, u16 x.floorVariance), (22, u16 x.starThreshold),
    (24, u8 x.windowRadius), (25, u16 x.driftLimit), (27, u16 x.outputPedestal), (29, flag x.autoDoze),
    (30, flag x.resumeAfterHold)] :=
  carriesFields_of_parts [] [] (by simp [planRecord]) (by simp [placed])

theorem planRecord_length (x : Plan) : (planRecord x).length = 31 := by simp [planRecord]

theorem meaninglessBytes_length (free entry width : Nat) : (meaninglessBytes free entry width).length = width := by
  simp [meaninglessBytes]

theorem starRecord_length (free : Nat) (i : Fin 24) (x : Star) : (starRecord free i x).length = 31 := by
  unfold starRecord
  split_ifs <;> simp [meaninglessBytes_length]

theorem slotRecord_length (free : Nat) (i : Fin 4) (x : DarkSlot) : (slotRecord free i x).length = 6 := by
  unfold slotRecord lastUsedBytes
  split_ifs <;> simp [meaninglessBytes_length]

theorem starRecord_head (free : Nat) (i : Fin 24) (x : Star) :
    CarriesFields (starRecord free i x) [(0, u8 i.val), (1, u8 (starStateCode x.state))] :=
  carriesFields_of_parts [] (if x.state == .vacant then meaninglessBytes free i.val 29
    else s32 x.refX ++ s32 x.refY ++ u32 x.flux ++ presence 8 s32Pair x.lastPos ++ presence 4 s16Pair x.lastResidual ++
        u8 x.missCount ++ u16 x.lastFound) (by simp [starRecord]) (by simp [placed])

theorem starRecord_fields (free : Nat) (i : Fin 24) {x : Star} (h : x.state ≠ .vacant) :
    CarriesFields (starRecord free i x) [(2, s32 x.refX), (6, s32 x.refY), (10, u32 x.flux),
      (14, presence 8 s32Pair x.lastPos), (23, presence 4 s16Pair x.lastResidual), (28, u8 x.missCount),
      (29, u16 x.lastFound)] :=
  carriesFields_of_parts (u8 i.val ++ u8 (starStateCode x.state)) [] (by simp [starRecord, h]) (by simp [placed])

theorem slotRecord_head (free : Nat) (i : Fin 4) (x : DarkSlot) :
    CarriesFields (slotRecord free i x) [(0, u8 i.val), (1, u8 (slotStateCode x.state))] :=
  carriesFields_of_parts [] (if x.state == .empty then meaninglessBytes free i.val 4
    else u8 x.band ++ u8 x.count ++ lastUsedBytes free i x.lastUsed) (by simp [slotRecord]) (by simp [placed])

theorem slotRecord_fields (free : Nat) (i : Fin 4) {x : DarkSlot} (h : x.state ≠ .empty) :
    CarriesFields (slotRecord free i x) [(2, u8 x.band), (3, u8 x.count)] :=
  carriesFields_of_parts (u8 i.val ++ u8 (slotStateCode x.state)) (lastUsedBytes free i x.lastUsed)
    (by simp [slotRecord, h]) (by simp [placed])

theorem slotRecord_lastUsed (free : Nat) (i : Fin 4) {x : DarkSlot} (h : x.state ≠ .empty) (used : x.lastUsed ≠ 0) :
    CarriesFields (slotRecord free i x) [(4, u16 x.lastUsed)] :=
  carriesFields_of_parts (u8 i.val ++ u8 (slotStateCode x.state) ++ u8 x.band ++ u8 x.count) []
    (by simp [slotRecord, lastUsedBytes, h, used]) (by simp [placed])

/-- What an entry carries stands at its place in the star table (R174). -/
theorem starTable_carries {s : State} (i : Fin 24) {fields : List (Nat × List Byte)}
    (h : CarriesFields (starRecord s.free i s.guidance.stars[i]) fields) :
    CarriesFields (starTablePayload s) (fields.map fun f => (31 * i.val + f.1, f.2)) := by
  obtain ⟨before, after, length, split⟩ := flatMap_split (enc := fun i => starRecord s.free i s.guidance.stars[i])
    (fun _ => starRecord_length ..) (finRange_getElem? i)
  rw [starTablePayload, split]
  exact carriesFields_within h length after

/-- What a slot summary carries stands at its place in the payload of Read Dark Library (R175). -/
theorem darkLibrary_carries {s : State} (i : Fin 4) {fields : List (Nat × List Byte)}
    (h : CarriesFields (slotRecord s.free i s.darks.slots[i]) fields) :
    CarriesFields (darkLibraryPayload s) (fields.map fun f => (6 * i.val + f.1, f.2)) := by
  obtain ⟨before, after, length, split⟩ := flatMap_split (enc := fun i => slotRecord s.free i s.darks.slots[i])
    (fun _ => slotRecord_length ..) (finRange_getElem? i)
  simp only [darkLibraryPayload, split, List.append_assoc]
  exact carriesFields_within h length _

theorem darkLibrary_markers (s : State) : CarriesFields (darkLibraryPayload s)
    [(24, u8 s.darks.useOrder.length ++ s.darks.useOrder.flatMap (fun i => u8 i.val) ++
      codeOrFf (s.darks.mergeTarget.map Fin.val) ++ codeOrFf (s.darks.inUse.map Fin.val))] := by
  have table : ((List.finRange 4).flatMap fun i => slotRecord s.free i s.darks.slots[i]).length = 24 := by
    rw [flatMap_length_of _ 6 fun _ => slotRecord_length .., List.length_finRange]
  refine carriesFields_of_parts ((List.finRange 4).flatMap fun i => slotRecord s.free i s.darks.slots[i]) []
    (by simp [darkLibraryPayload, counted]) ?_
  rw [table]
  rfl

theorem poseRecord_length (x : Pose) : (poseRecord x).length = 10 := by
  cases x <;> simp [poseRecord]

theorem subOutcomeRecord_fields (i : Fin 6) (d : Descriptor) : CarriesFields (subOutcomeRecord i d) [(0, u8 i.val),
    (1, u8 (descStateCode d.state)), (2, u16 d.sub), (4, u8 (kindCode d.kind)), (5, presence 2 s16 d.temperature),
    (8, u32 d.start.toNat), (12, u32 d.exposure), (16, poseRecord d.pose), (26, presence 4 s16Pair d.residual),
    (31, u8 d.matched), (32, codeOrFf (d.calibration.map calibrationCode)), (33, codeOrFf (d.outcome.map outcomeCode)),
    (34, codeOrFf (d.outcome.bind causeCode)), (35, u32 d.rejectedCells), (39, u32 d.mergedSky),
    (43, u32 d.mergedGround), (47, planRecord d.snapshot)] :=
  carriesFields_of_parts [] [] (by simp [subOutcomeRecord, u32Clock]) (by simp [placed, poseRecord_length])

theorem subOutcomeRecord_length (i : Fin 6) (d : Descriptor) : (subOutcomeRecord i d).length = 78 := by
  simp [subOutcomeRecord, poseRecord_length, planRecord_length]

/-- An s32 is the u32 of the number's remainder: two's complement. -/
theorem s32_eq (i : Int) : s32 i = u32 (i % 4294967296).toNat := by
  simp [s32, u32, BitVec.toNat_ofInt]

/-! ## The descriptor that carries a sub number -/

theorem carrying_none {r : Ring} {sub : Nat} (h : ∀ j : Fin 6, r.desc[j].state = .free ∨ r.desc[j].sub ≠ sub) :
    r.carrying sub = none := by
  simp only [Ring.carrying, Ring.first, List.find?_eq_none]
  intro j _
  have := h j
  generalize r.desc[j] = d at this
  simpa [imp_iff_not_or] using this

theorem carrying_of_unique {r : Ring} {sub : Nat} {i : Fin 6} (held : r.desc[i].state ≠ .free)
    (carries : r.desc[i].sub = sub)
    (unique : ∀ j : Fin 6, r.desc[j].state ≠ .free → r.desc[j].sub = sub → j = i) : r.carrying sub = some i := by
  have found : (r.carrying sub).isSome = true := by
    simp only [Ring.carrying, Ring.first, List.find?_isSome]
    exact ⟨i, List.mem_finRange i, by generalize r.desc[i] = d at held carries; simp [held, carries]⟩
  obtain ⟨j, hj⟩ := Option.isSome_iff_exists.mp found
  have test := List.find?_some hj
  have : j = i := by
    generalize hd : r.desc[j] = d at test
    obtain ⟨h, g⟩ := by simpa using test
    exact unique j (by rwa [hd]) (by rwa [hd])
  rw [hj, this]

/-! ## Reads of tables (R21, R66, R88, R99, R105) -/

/-- A read answers with a payload that the taking does not change. -/
theorem answer_doneWith {p : SelectPeriod} {s t : State} {code : Byte} {need : Nat} {payload : List Byte}
    {judge : State → Answer} (quiet : QuietTaking p s) (long : need ≤ byteCount p)
    (h : judge (taken p s) = doneWith payload (taken p t)) :
    answer code p need judge s = answered p code .done [] payload t :=
  answer_of_taken quiet long h

/-- Read Tiles of tiles that exist answers with a run of entries (R105). -/
theorem judgeReadTiles_of_lt {p : SelectPeriod} {s : State} (first : fieldU16 p 2 < s.tileCount) :
    let n := min (max 1 (min (fieldU16 p 4) 512)) (s.tileCount - fieldU16 p 2)
    let out := 1 ≤ fieldU16 p 4 ∧ fieldU16 p 4 ≤ 512
    judgeReadTiles p (taken p s) = ⟨taken p s, if out then .done else .doneClamped, if out then [] else [4],
      u16 n ++ (List.range n).flatMap fun k =>
        tileRecord (regionRead TileEntry.default s.tileMap (fieldU16 p 2 + k)), none⟩ := by
  have same : (max 1 (min (fieldU16 p 4) 512) = fieldU16 p 4) = (1 ≤ fieldU16 p 4 ∧ fieldU16 p 4 ≤ 512) :=
    propext (by omega)
  simp only [judgeReadTiles, taken_tileCount, if_neg (Nat.not_le.mpr first), State.tileRun, taken_tileMap,
    SettingsRequests.clampNat_eq (show 1 ≤ 512 by decide), same, List.length_map, List.length_range, List.flatMap_map]
  by_cases out : 1 ≤ fieldU16 p 4 ∧ fieldU16 p 4 ≤ 512 <;> simp [out, doneOrClamped]

/-- Settles O16. -/
theorem tableReadsAnswerForWhatTheyName : Obligations.TableReadsAnswerForWhatTheyName := by
  refine ⟨fun p s quiet long => ⟨?_, ?_, ?_, fun i => ⟨?_, ?_⟩, fun i => ⟨?_, fun held => ⟨?_, fun used => ?_⟩⟩,
      fun i => ?_, darkLibrary_markers s, rfl, rfl⟩,
    fun p s quiet => ⟨fun long => ⟨fun i hi => ?_, fun hi => ?_⟩,
      fun long => ⟨fun i held carries unique => ?_, fun none => ?_⟩, fun long => ⟨fun first => ?_, fun first => ?_⟩⟩,
    fun x => ⟨planRecord_fields x, planRecord_length x⟩, fun s i => ⟨fun active => ?_, fun active pending => ?_,
      fun active pending => ?_⟩, fun i d => ⟨?_, subOutcomeRecord_length i d⟩, fun e => rfl, s32_eq, rfl, rfl, rfl⟩
  · refine congrArg _ (answer_doneWith quiet long ?_)
    simp only [starTablePayload, taken_free, taken_guidance, taken_onFree]
    rfl
  · refine congrArg _ (answer_doneWith quiet long ?_)
    simp only [darkLibraryPayload, taken_free, taken_darks, taken_onFree]
    rfl
  · rw [starTablePayload, flatMap_length_of _ 31 fun _ => starRecord_length .., List.length_finRange]
  · exact getElem?_of_carriesFields (starTable_carries i (starRecord_head _ i _)) List.mem_cons_self
  · exact getElem?_of_carriesFields (starTable_carries i (starRecord_head _ i _))
      (List.mem_cons_of_mem _ List.mem_cons_self)
  · exact darkLibrary_carries i (slotRecord_head _ i _)
  · exact darkLibrary_carries i (slotRecord_fields _ i held)
  · exact darkLibrary_carries i (slotRecord_lastUsed _ i held used)
  · dsimp only
    intro held
    have carried := starTable_carries i (starRecord_fields s.free i held)
    generalize s.guidance.stars[i] = entry at held carried ⊢
    obtain ⟨state, refX, refY, flux, lastPos, lastResidual, missCount, lastFound⟩ := entry
    rcases lastPos with _ | ⟨x, y⟩ <;> rcases lastResidual with _ | ⟨ex, ey⟩ <;> exact carried
  · refine congrArg _ (answer_doneWith quiet long ?_)
    simp [judgeReadPlan, indexNamed_of_lt hi, readPlanPayload]
  · refine congrArg _ (answer_of_taken quiet long ?_)
    rw [judgeReadPlan, indexNamed_of_ge hi]
    rfl
  · refine congrArg _ (answer_doneWith quiet long ?_)
    simp [judgeReadSubOutcome, carrying_of_unique held carries unique]
  · refine congrArg _ (answer_of_taken quiet long ?_)
    simp only [judgeReadSubOutcome, taken_ring, carrying_none none]
    rfl
  · refine congrArg _ (answer_of_taken quiet long ?_)
    simp only [judgeReadTiles, taken_tileCount, if_pos first]
    rfl
  · exact congrArg _ (answer_of_taken quiet long (judgeReadTiles_of_lt first))
  · simp [readPlanPayload, active, u8]
  · simp [readPlanPayload, active, pending, u8]
  · simp [readPlanPayload, active, pending, u8]
  · have carried := subOutcomeRecord_fields i d
    obtain ⟨_, _, _, _, _, temperature, _, pose, residual⟩ := d
    cases temperature <;> cases pose <;> rcases residual with _ | ⟨ex, ey⟩ <;> exact carried

end Sys2Proof.Proofs.ResponseRecords
end

section
/-! PROOFS. The plain reads: what each payload carries byte by byte (R25, R29, R50, R67, R88, R124, R137, R152, R162, R166). -/

namespace Sys2Proof.Proofs.PlainReads

open Sys2Proof.Machine Sys2Proof.Safety Sys2Proof.Proofs.Taking Sys2Proof.Proofs.ResponseRecords

-- The declarations are elaborated one after another, which keeps the check of the whole text within its memory.
set_option Elab.async false

/-! ## Encodings (R169) -/

theorem u32_eq (n : Nat) : u32 n = u16 n ++ u16 (n / 65536) := by
  simp [u32, u16, littleEndian, Nat.div_div_eq_div_mul]

theorem u48_eq (n : Nat) : u48 n = u32 n ++ u16 (n / 2 ^ 32) := by
  simp [u48, u32, u16, littleEndian, Nat.div_div_eq_div_mul]

theorem s16_eq (i : Int) : s16 i = u16 (i % 65536).toNat := by
  simp [s16, u16, BitVec.toNat_ofInt]

theorem s24_eq (i : Int) : s24 i = u16 (i % 16777216).toNat ++ u8 ((i % 16777216).toNat / 65536) := by
  simp [s24, u16, u8, littleEndian, BitVec.toNat_ofInt, Nat.div_div_eq_div_mul]

theorem total16_of_lt {n : Nat} (h : n < 65536) : total16 n = u16 n := by simp [total16, h]

theorem total48_of_lt {n : Nat} (h : n < 2 ^ 48) : total48 n = u32 n ++ u16 (n / 2 ^ 32) := by
  rw [total48, if_pos h, u48_eq]

theorem presence_map {α β : Type} (width : Nat) (enc : β → List Byte) (f : α → β) (o : Option α) :
    presence width enc (o.map f) = presence width (fun a => enc (f a)) o := by
  cases o <;> rfl

theorem codeOrFf_waiting (b : Bool) : codeOrFf (if b then some 0 else none) = [if b then 0 else 0xff] := by
  cases b <;> rfl

/-! ## Payloads -/

theorem sequencerPayload_fields (s : State) : CarriesFields (sequencerPayload s) [(0, u32 s.seq.clock.toNat),
    (4, u8 (phaseCode s.seq.phase)), (5, presence 4 u32Clock s.seq.cadenceTimer), (10, flag s.seq.keptExpiry),
    (11, presence 12 exposureRecord s.seq.current), (24, u8 s.seq.lightsSinceDark), (25, flag s.seq.remotePressed),
    (26, flag s.lines.trigger), (27, flag s.lines.shutterClose), (28, flag s.lines.shutterClosed),
    (29, presence 5 (fun f => u8 (shutterFaultCode f.1) ++ u32Clock f.2) s.seq.lastFault)] :=
  carriesFields_of_parts [] [] (by simp [sequencerPayload, u32Clock]) (by simp [placed])

theorem sequencerPayload_length (s : State) : (sequencerPayload s).length = 35 := by simp [sequencerPayload]

theorem sensorPayload_fields (s : State) : CarriesFields (sensorPayload s) [(0, u16 s.port.width),
    (2, u16 s.port.height), (4, u8 (bayerCode s.port.bayer)), (5, u8 s.port.lanes), (6, u8 (laneSyncCode s.port.sync)),
    (7, u8 (receptionCode s.port.reception) ++ presence 2 u16 (receptionSub s.port.reception)),
    (11, u16 s.port.lineCount), (13, u16 s.port.pixelCount), (15, flag s.port.frameFailed),
    (16, presence 4 u32Clock s.port.readoutTimer),
    (21, presence 4 (fun t => u16 t.frameCounter ++ s16 t.temperature) s.port.lastTrailer),
    (26, codeOrFf (s.port.lastResult.map frameResultCode)), (27, u16 s.port.discarded)] :=
  carriesFields_of_parts [] [] (by simp [sensorPayload]) (by simp [placed])

theorem sensorPayload_length (s : State) : (sensorPayload s).length = 29 := by simp [sensorPayload]

theorem ringPayload_eq (s : State) : ringPayload s =
    (u16 s.ring.lastOpened ++ u16 s.ring.lastRetired ++ [6]) ++ (List.finRange 6).flatMap (ringEntry s.ring) := by
  simp [ringPayload, counted, u8]

/-- What an entry of the ring carries stands at its place in the payload of Read Ring (R67). -/
theorem ringPayload_carries {s : State} (i : Fin 6) {fields : List (Nat × List Byte)}
    (h : CarriesFields (ringEntry s.ring i) fields) :
    CarriesFields (ringPayload s) (fields.map fun f => (5 + f.1 + 7 * i.val, f.2)) := by
  have place : (fun f : Nat × List Byte => (5 + f.1 + 7 * i.val, f.2)) = fun f => (5 + 7 * i.val + f.1, f.2) :=
    funext fun f => congrArg (·, f.2) (by omega)
  obtain ⟨before, after, length, split⟩ := flatMap_split (enc := ringEntry s.ring) (fun _ => ringEntry_length ..)
    (finRange_getElem? i)
  rw [place, ringPayload_eq, split, ← List.append_assoc]
  exact carriesFields_within h (by simp [length]; omega) after

theorem ringPayload_length (s : State) : (ringPayload s).length = 47 := by
  rw [ringPayload_eq, List.length_append, flatMap_length_of _ 7 fun _ => ringEntry_length .., List.length_finRange]
  rfl

theorem ringEntry_fields (r : Ring) (i : Fin 6) : CarriesFields (ringEntry r i) [(0, u8 i.val),
    (1, u8 (descStateCode r.desc[i].state)),
    (2, if r.desc[i].state = .free then [0, 0, 0xff] else u16 r.desc[i].sub ++ u8 (kindCode r.desc[i].kind)),
    (5, if r.desc[i].state = .retired
      then codeOrFf (r.desc[i].outcome.map outcomeCode) ++ codeOrFf (r.desc[i].outcome.bind causeCode)
      else [0xff, 0xff])] := by
  unfold ringEntry
  generalize r.desc[i] = d
  refine carriesFields_of_parts [] [] ?_ ?_
  · cases h : d.state <;> simp [h] <;> rfl
  · cases h : d.state <;> simp [placed]

/-- The parts of the payload of Read Guidance that stand before and after the pose history (R88). -/
def guidanceBefore (s : State) : List Byte :=
  presence 6 (fun r => u16 r.sub ++ u32Clock r.midTime) s.guidance.reference ++ u8 s.guidance.history.length

def guidanceAfter (s : State) : List Byte :=
  u8 (lockedCount s.guidance.stars) ++
    [StarState.vacant, .locked, .missing, .lost, .hidden].flatMap (fun st => u8 (starCount s st)) ++
    flag s.guidance.reacquisitionDue

theorem guidancePayload_eq (s : State) :
    guidancePayload s = guidanceBefore s ++ (s.guidance.history.flatMap poseEntryRecord ++ guidanceAfter s) := by
  simp [guidancePayload, guidanceBefore, guidanceAfter, counted]

theorem guidanceBefore_length (s : State) : (guidanceBefore s).length = 8 := by simp [guidanceBefore]

theorem guidanceHistory_length (s : State) :
    (s.guidance.history.flatMap poseEntryRecord).length = s.guidance.history.length * 15 :=
  flatMap_length_of _ 15 poseEntryRecord_length _

theorem guidancePayload_length (s : State) : (guidancePayload s).length = 15 + 15 * s.guidance.history.length := by
  simp only [guidancePayload_eq, List.length_append, guidanceBefore_length, guidanceHistory_length]
  simp [guidanceAfter]
  omega

theorem guidancePayload_fields (s : State) : CarriesFields (guidancePayload s) [
    (0, presence 6 (fun r => u16 r.sub ++ u32Clock r.midTime) s.guidance.reference),
    (7, u8 s.guidance.history.length), (8, s.guidance.history.flatMap poseEntryRecord),
    (8 + 15 * s.guidance.history.length, u8 (lockedCount s.guidance.stars)),
    (9 + 15 * s.guidance.history.length,
      [StarState.vacant, .locked, .missing, .lost, .hidden].flatMap fun st => u8 (starCount s st)),
    (14 + 15 * s.guidance.history.length, flag s.guidance.reacquisitionDue)] := by
  refine carriesFields_of_parts [] [] (by simp [guidancePayload, counted]) ?_
  simp only [List.map_cons, List.map_nil, placed, guidanceHistory_length]
  simp
  omega

/-- An entry of the pose history stands at its place (R88). -/
theorem guidancePayload_history {s : State} {k : Nat} {e : PoseEntry} (h : s.guidance.history[k]? = some e) :
    CarriesFields (guidancePayload s) [(8 + 15 * k, poseEntryRecord e)] := by
  obtain ⟨before, after, length, split⟩ := flatMap_split poseEntryRecord_length h
  refine carriesFields_of_parts (guidanceBefore s ++ before) (after ++ guidanceAfter s) ?_ ?_
  · simp [guidancePayload_eq, split]
  · simp [placed, guidanceBefore_length, length]

theorem jobRecord_of_held {s : State} {i : Fin 6} (h : s.engine.job = .descriptor i) (held : s.ring.desc[i].state ≠ .free) :
    jobRecord s = u8 2 ++ u8 i.val ++ [1] ++ u16 s.ring.desc[i].sub ++ u8 (descStateCode s.ring.desc[i].state) := by
  simp only [jobRecord, h, bne_iff_ne.mpr held, if_true]
  rfl

theorem jobRecord_of_free {s : State} {i : Fin 6} (h : s.engine.job = .descriptor i) (free : s.ring.desc[i].state = .free) :
    jobRecord s = u8 2 ++ u8 i.val ++ [0, 0, 0, 0xff] := by
  simp only [jobRecord, h, free]
  rfl

theorem jobRecord_of_other {s : State} (h : ∀ i, s.engine.job ≠ .descriptor i) :
    jobRecord s = u8 (jobCode s.engine.job) ++ [0xff, 0, 0, 0, 0xff] := by
  unfold jobRecord
  cases job : s.engine.job
  case descriptor i => exact absurd job (h i)
  all_goals rfl

theorem enginePayload_fields (s : State) : CarriesFields (enginePayload s) [(0, flag s.powered), (1, jobRecord s),
    (7, u16 s.engine.tilesDone), (9, u16 s.tileCount), (11, u8 (stopCode s.engine.stop)),
    (12, flag s.engine.clearPending), (13, flag s.engine.finishPending), (14, flag s.engine.previewPending),
    (15, u8 s.ring.waitingCount),
    (16, presence 2 u16 (if s.results.output == .valid then some s.results.pedestal else none)),
    (19, codeOrFf (s.results.lastPreviewEnd.map previewEndCode)), (20, flag s.engineHasWork)] :=
  carriesFields_of_parts [] [] (by simp [enginePayload]) (by simp [placed])

theorem enginePayload_length (s : State) : (enginePayload s).length = 21 := by simp [enginePayload]

theorem powerPayload_fields (s : State) : CarriesFields (powerPayload s) [(0, u8 (powerStateCode s.power.state)),
    (1, flag s.power.changing), (2, u8 (memoryStateCode s.power.memory)), (3, flag s.power.engineOn),
    (4, [if s.power.waiting then 0 else 0xff]), (5, flag s.power.stayAwake),
    (6, presence 4 (fun t => u32 (elapsed s.now t)) s.power.reserveTimer), (11, flag s.power.wakePending),
    (12, codeOrFf (s.power.lastWake.map wakeCauseCode)), (13, codeOrFf (s.power.lastRefusal.map refusalCauseCode)),
    (14, flag s.lines.pfWarn), (15, flag s.holdCondition), (16, flag (s.power.state == .active && !s.power.changing)),
    (17, flag s.plan.autoDoze), (18, flag (!s.power.stayAwake)), (19, flag (!s.engineHasWork)),
    (20, flag s.pLink.bulkRead.isNone), (21, flag s.reading.isNone), (22, flag (s.timeRemaining.all (250 < ·))),
    (23, flag (!(s.power.waiting && s.idleOrLost)))] :=
  carriesFields_of_parts [] [] 
    (by simp [powerPayload, State.dozeConditions, presence_map, codeOrFf_waiting]) (by simp [placed])

theorem powerPayload_length (s : State) : (powerPayload s).length = 24 := by simp [powerPayload, State.dozeConditions]

theorem statusHead_eq : u8 0x54 ++ u16 412 ++ u8 1 = [0x54#8, 0x9c#8, 0x01#8, 0x01#8] := rfl

theorem statusPayload_fields (l : Link) (s : State) : CarriesFields (statusPayload l s) [
    (0, [0x54, 0x9c, 0x01, 0x01]), (4, u8 (linkCode l)), (5, u8 (sessionStateCode s.session.state)),
    (6, codeOrFf (s.session.pauseCause.map pauseCauseCode)), (7, flag s.session.referenceSet),
    (8, u8 s.session.activePlan.val), (9, codeOrFf (s.session.pendingPlan.map Fin.val)),
    (10, u8 (phaseCode s.seq.phase)), (11, u16 s.ring.lastOpened), (13, u16 s.ring.lastRetired),
    (15, u8 (powerStateCode s.power.state)), (16, flag s.power.changing), (17, flag s.power.stayAwake),
    (18, flag s.power.waiting), (19, flag s.lines.pfWarn), (20, jobRecord s),
    (26, u8 s.ring.waitingCount), (27, eventSet (s.link l).pendingSet),
    (29, eventSet (s.link l).enableSet), (31, codeOrFf (s.link l).lead), (32, flag (s.link l).attention)] := by
  refine carriesFields_of_parts [] [] ?_ (by simp [placed])
  unfold statusPayload
  rw [statusHead_eq]
  simp

theorem statusPayload_length (l : Link) (s : State) : (statusPayload l s).length = 33 := by
  unfold statusPayload
  rw [statusHead_eq]
  simp

theorem totalsPayload_length (s : State) : (totalsPayload s).length = 44 := by simp [totalsPayload, total16, total48]

/-- The totals with their offsets: those of 16 bits, and those of 48 (R176). -/
def shortTotals (t : Totals) : List (Nat × Nat) :=
  [(0, t.subsOpened), (2, t.lightsMerged), (4, t.lightsGroundOnly), (6, t.rejectedShake), (8, t.rejectedMoved),
    (10, t.rejectedGeometry), (12, t.rejectedPaused), (14, t.rejectedAbandoned), (16, t.skipped), (18, t.darksMerged),
    (20, t.darksDiscarded)]

def longTotals (t : Totals) : List (Nat × Nat) := [(22, t.rejectedCells), (28, t.skyMs), (34, t.groundMs)]

theorem totalsPayload_fields (s : State) : CarriesFields (totalsPayload s)
    ((shortTotals s.session.totals).map (fun x => (x.1, total16 x.2)) ++
      ((longTotals s.session.totals).map (fun x => (x.1, total48 x.2)) ++ [(40, u32 s.session.runTime)])) :=
  carriesFields_of_parts [] [] (by simp [totalsPayload, shortTotals, longTotals])
    (by simp [placed, shortTotals, longTotals, total16, total48])

theorem driftPayload_none {s : State} (h : s.guidance.drift = none) : driftPayload s = List.replicate 10 0 := by
  simp [driftPayload, presence, h]

theorem driftPayload_fields {s : State} {d : DriftRecord} (h : s.guidance.drift = some d) :
    CarriesFields (driftPayload s) [(0, [1]), (1, u16 d.sub), (3, presence 4 s16Pair d.residual), (8, u8 d.matched),
      (9, u8 (16 * poseSourceCode d.source + driftResultCode d.result))] :=
  carriesFields_of_parts [] [] (by simp [driftPayload, presence, h]) (by simp [placed])

theorem driftPayload_length (s : State) : (driftPayload s).length = 10 := by simp [driftPayload]

theorem eventsPayload_fields {l : LinkState} {a b c d : EventGroup} (h : l.order = [a, b, c, d]) :
    CarriesFields (eventsPayload l) [(0, eventSet l.pendingSet), (2, eventSet l.enableSet), (4, u8 (groupCode a)),
      (5, u8 (groupCode b)), (6, u8 (groupCode c)), (7, u8 (groupCode d)), (8, codeOrFf l.lead)] :=
  carriesFields_of_parts [] [] (by simp [eventsPayload, h]) (by simp [placed])

theorem eventsPayload_length {l : LinkState} {a b c d : EventGroup} (h : l.order = [a, b, c, d]) :
    (eventsPayload l).length = 9 := by simp [eventsPayload, h]

/-- The engine has work exactly when it has a job, a stop, a pending mark or a WAITING descriptor (R111). -/
theorem engineHasWork_iff (s : State) : s.engineHasWork = true ↔ s.engine.job ≠ .none ∨ s.engine.stop ≠ .none ∨
    s.engine.clearPending = true ∨ s.engine.finishPending = true ∨ s.engine.previewPending = true ∨
      ∃ i : Fin 6, s.ring.desc[i].state = .waiting := by
  have waiting : s.ring.nextWaiting.isSome = true ↔ ∃ i : Fin 6, s.ring.desc[i].state = .waiting := by
    rw [← not_iff_not, Bool.not_eq_true, Option.isSome_eq_false_iff, Option.isNone_iff_eq_none, Ring.nextWaiting,
      StepsAndValues.leastIndex_none_iff]
    simp
  simp only [State.engineHasWork, Bool.or_eq_true, waiting, bne_iff_ne, or_assoc]

/-- The time remaining (R42, R140). -/
theorem timeRemaining_right (s : State) : TimeRemainingRight s := by
  have exposing (c : CurrentExposure) (hc : s.seq.current = some c)
      (gate : ¬(c.kind = .light ∧ s.ring.desc[c.index].snapshot.triggerMode = .remoteGate)) :
      s.timeRemaining = some (s.ring.desc[c.index].exposure - (s.seq.clock - c.start).toNat) := by
    simp only [State.timeRemaining, hc, Bool.and_eq_true, beq_iff_eq, if_neg gate]
    rfl
  refine ⟨fun c hc => ⟨fun gate => ?_, exposing c hc, fun gate planned small ran => ?_⟩, fun none =>
    ⟨fun cadence kept => ?_, fun cadence kept => ?_, fun cadence => ?_⟩⟩
  · simp only [State.timeRemaining, hc, Bool.and_eq_true, beq_iff_eq, if_pos gate]
    rfl
  · rw [exposing c hc gate, planned]
    congr 1
    generalize s.ring.desc[c.index].exposure = exposure at small ran
    bv_omega
  all_goals
    have timed : (s.running && s.mode == .timed) = true ↔
        s.session.state ∈ [.referencing, .integrating] ∧ s.plan.triggerMode = .timed := by
      simp [State.running, State.mode]
  · simp only [State.timeRemaining, none, timed.mpr cadence, kept, if_true]
  · simp only [State.timeRemaining, none, timed.mpr cadence, kept, if_true]
    rfl
  · simp only [State.timeRemaining, none, mt timed.mp cadence]
    rfl

/-! ## The reads -/

theorem answer_read {p : SelectPeriod} {s : State} {code : Byte} {payload : State → List Byte} (quiet : QuietTaking p s)
    (long : 2 ≤ byteCount p) (same : payload (taken p s) = payload s) :
    answer code p 2 (fun s => doneWith (payload s) s) s = answered p code .done [] (payload s) s :=
  answer_doneWith quiet long (by rw [same])

theorem jobRecord_taken (p : SelectPeriod) (s : State) : jobRecord (taken p s) = jobRecord s := by
  simp [jobRecord]

theorem enginePayload_taken (p : SelectPeriod) (s : State) : enginePayload (taken p s) = enginePayload s := by
  simp [enginePayload, jobRecord_taken, State.engineHasWork]

/-- The taking leaves the event sets and the order of each link as they are. -/
theorem link_taken (p : SelectPeriod) (s : State) (l : Link) : ((taken p s).link l).pendingSet = (s.link l).pendingSet ∧
    ((taken p s).link l).enableSet = (s.link l).enableSet ∧ ((taken p s).link l).order = (s.link l).order ∧
    ((taken p s).link l).attention = (s.link l).attention := by
  unfold taken
  cases p.link <;> cases l <;> exact ⟨rfl, rfl, rfl, rfl⟩

theorem lead_taken (p : SelectPeriod) (s : State) (l : Link) : ((taken p s).link l).lead = (s.link l).lead := by
  obtain ⟨pending, enable, order, -⟩ := link_taken p s l
  simp only [LinkState.lead, LinkState.live, pending, enable, order]

theorem eventsPayload_taken (p : SelectPeriod) (s : State) :
    eventsPayload ((taken p s).link p.link) = eventsPayload (s.link p.link) := by
  obtain ⟨pending, enable, order, -⟩ := link_taken p s p.link
  simp only [eventsPayload, pending, enable, order, lead_taken]

theorem statusPayload_taken (p : SelectPeriod) (s : State) :
    statusPayload p.link (taken p s) = statusPayload p.link s := by
  obtain ⟨pending, enable, -, attention⟩ := link_taken p s p.link
  unfold statusPayload
  rw [statusHead_eq]
  simp only [pending, enable, attention, lead_taken, jobRecord_taken, taken_session, taken_seq, taken_ring, taken_power,
    taken_lines]

theorem carriesFields_of_mem {payload field : List Byte} {fields : List (Nat × List Byte)} {k : Nat}
    (h : CarriesFields payload fields) (mem : (k, field) ∈ fields) : CarriesFields payload [(k, field)] := by
  intro f hf
  obtain rfl := List.mem_singleton.mp hf
  exact h _ mem

theorem carriesFields_of_subset {payload : List Byte} {fields more : List (Nat × List Byte)}
    (h : CarriesFields payload more) (sub : fields ⊆ more) : CarriesFields payload fields :=
  fun f hf => h f (sub hf)

/-- Settles O15. -/
theorem readsChangeNothingButTheResponse : Obligations.ReadsChangeNothingButTheResponse := by
  refine ⟨fun p s quiet long => ⟨?_, ?_, ?_, ?_, ?_, ?_, ?_, ?_, ?_, ?_, ?_⟩, fun s => ⟨sequencerPayload_fields s,
    sequencerPayload_length s, ?_, sensorPayload_length s, ?_, fun i => ?_, ?_, ?_, fun k e h => guidancePayload_history h,
    guidancePayload_length s, ?_, enginePayload_length s, engineHasWork_iff s, ?_, powerPayload_length s,
    timeRemaining_right s, fun l => ⟨?_, statusPayload_length l s⟩, ?_, driftPayload_none, fun d h => ⟨?_,
    driftPayload_length s⟩, fun t ht => ⟨fun offset total mem small => ?_, fun offset total mem small => ?_⟩, ?_,
    totalsPayload_length s⟩, fun l a b c d h => ⟨eventsPayload_fields h, eventsPayload_length h⟩,
    fun n => ⟨rfl, rfl, u32_eq n, rfl⟩, fun i => ⟨s16_eq i, s24_eq i⟩, rfl, rfl, rfl, fun _ _ _ => ⟨rfl, rfl⟩,
    rfl, rfl, rfl, rfl, rfl, rfl, rfl, rfl, rfl, rfl, rfl, rfl, rfl, rfl, rfl, rfl, rfl, rfl, rfl, rfl, rfl, rfl⟩
  · exact congrArg _ (answer_read quiet long (by simp [partSettingsPayload]))
  · exact congrArg _ (answer_read quiet long (by simp [sequencerPayload]))
  · exact congrArg _ (answer_read quiet long (by simp [sensorPayload]))
  · exact congrArg _ (answer_read quiet long (by simp [ringPayload]))
  · exact congrArg _ (answer_read quiet long (by simp [driftPayload]))
  · exact congrArg _ (answer_read quiet long (by simp [guidancePayload, starCount]))
  · exact congrArg _ (answer_read quiet long (enginePayload_taken p s))
  · exact congrArg _ (answer_read quiet long (by simp [totalsPayload]))
  · refine congrArg _ (answer_doneWith (t := s) quiet long ?_)
    rfl
  · exact congrArg _ (answer_read quiet long (eventsPayload_taken p s))
  · exact congrArg _ (answer_read quiet long (statusPayload_taken p s))
  · have carried := sensorPayload_fields s
    generalize s.port.reception = reception at carried ⊢
    cases reception <;> exact carried
  · exact carriesFields_of_parts [] ((List.finRange 6).flatMap (ringEntry s.ring)) (by simp [ringPayload_eq])
      (by simp [placed])
  · exact ringPayload_carries i (ringEntry_fields s.ring i)
  · exact ringPayload_length s
  · exact carriesFields_of_subset (guidancePayload_fields s)
      (List.Sublist.subset (.cons_cons _ (.cons_cons _ (.cons _ (.refl _)))))
  · have carried := enginePayload_fields s
    simp only [beq_iff_eq] at carried
    cases job : s.engine.job
    case descriptor i =>
      by_cases free : s.ring.desc[i].state = .free
      · rw [jobRecord_of_free job free] at carried
        simp only [if_pos free]
        exact carried
      · rw [jobRecord_of_held job free] at carried
        simp only [if_neg free]
        exact carried
    all_goals
      rw [jobRecord_of_other (by simp [job]), job] at carried
      exact carried
  · exact powerPayload_fields s
  · have carried := statusPayload_fields l s
    have job : ((enginePayload s).drop 1).take 6 = jobRecord s := by
      simpa using enginePayload_fields s (1, jobRecord s) (by simp)
    have waiting : ((enginePayload s).drop 15).take 1 = u8 s.ring.waitingCount :=
      enginePayload_fields s (15, u8 s.ring.waitingCount) (by simp)
    rw [job, waiting]
    cases l <;> exact carried
  · cases wakes : s.session.remoteWake <;> simp [partSettingsPayload, u8, flag, wakes]
  · have carried := driftPayload_fields h
    obtain ⟨_, residual⟩ := d
    rcases residual with _ | ⟨ex, ey⟩ <;> exact carried
  · subst ht
    rw [← total16_of_lt small]
    exact carriesFields_of_mem (totalsPayload_fields s)
      (List.mem_append_left _ (List.mem_map_of_mem (f := fun x => (x.1, total16 x.2)) mem))
  · subst ht
    rw [← total48_of_lt small]
    exact carriesFields_of_mem (totalsPayload_fields s) (List.mem_append_right _
      (List.mem_append_left _ (List.mem_map_of_mem (f := fun x => (x.1, total48 x.2)) mem)))
  · exact carriesFields_of_mem (totalsPayload_fields s)
      (List.mem_append_right _ (List.mem_append_right _ List.mem_cons_self))

end Sys2Proof.Proofs.PlainReads
end

section
/-! PROOFS. The requests of the guidance, the events, the previews and the bulk reads, the answers of HOLD, and
collections. -/

namespace Sys2Proof.Proofs.LinkRequests

open Sys2Proof.Machine Sys2Proof.Safety Sys2Proof.Proofs.Taking Sys2Proof.Proofs.ResponseRecords

-- The declarations are elaborated one after another, which keeps the check of the whole text within its memory.
set_option Elab.async false

/-! ## The taking of a request -/

/-- What the taking of a request leaves besides the response discarded: the wake of STANDBY, and on the S-link a waiting
request given up (R144, R146). -/
def afterTaking (p : SelectPeriod) (s : State) : State :=
  match p.link with
  | .p => standbyWake .pLink s
  | .s => giveUpWaiting .woken (standbyWake .sLink s)

theorem takeRequest_eq (p : SelectPeriod) (s : State) : takeRequest p true s = taken p (afterTaking p s) := by
  cases hp : p.link
  · rw [takeRequest_pLink hp, afterTaking, hp]
  · rw [afterTaking, hp, ← giveUpWaiting_taken, ← standbyWake_taken]
    simp [takeRequest, hp, taken]

/-- The answer of a request in any power state, from its judgement after the taking. -/
theorem answer_of_judged {p : SelectPeriod} {s t : State} {code : Byte} {need : Nat} {judge : State → Answer}
    {o : ReqOutcome} {fs : List Nat} {d : List Byte} (long : need ≤ byteCount p)
    (h : judge (taken p (afterTaking p s)) = ⟨taken p t, o, fs, d, none⟩) :
    answer code p need judge s = answered p code o fs d t := by
  have : ¬byteCount p < need := by omega
  rw [answer, answerWaking, takeRequest_eq, if_neg this, h, respond_taken]

/-- An answer whose bytes come later is the request answered so (R157). -/
theorem respond_taken_later (code : Byte) (p : SelectPeriod) (o : ReqOutcome) (fs : List Nat) (d : List Byte)
    (b : BulkRead) (s : State) :
    respond code p ⟨taken p s, o, fs, d, some b⟩ = answeredLater p code o fs d b s := by
  cases hl : p.link <;> simp [respond, answeredLater, taken, hl, State.onLink, State.onPLink, State.onSLink]

/-! ## Report Pose and Drop Star (R72, R77) -/

theorem qualityNamed_of_getElem? {n : Nat} {q : Quality} (h : [Quality.steady, .shaken, .moved][n]? = some q) :
    qualityNamed n = some q := by
  match n, h with
  | 0, h => exact h
  | 1, h => exact h
  | 2, h => exact h

theorem qualityNamed_of_lt {n : Nat} (h : n < 3) : ∃ q, qualityNamed n = some q := by
  interval_cases n <;> exact ⟨_, rfl⟩

theorem qualityNamed_of_ge {n : Nat} (h : 3 ≤ n) : qualityNamed n = none := by
  match n, h with
  | n + 3, _ => rfl

theorem poseTarget_none {s : State} {sub : Nat}
    (h : ∀ j : Fin 6, s.ring.desc[j].state = .free ∨ s.ring.desc[j].sub ≠ sub) : s.poseTarget sub = none := by
  rw [State.poseTarget, carrying_none h]
  rfl

/-- The descriptor that carries a sub number takes a pose exactly as a light EXPOSING, READING or WAITING (R72). -/
theorem poseTarget_of_carrying {s : State} {sub : Nat} {i : Fin 6} (h : s.ring.carrying sub = some i) :
    s.poseTarget sub =
      if s.ring.desc[i].kind = .light ∧ s.ring.desc[i].state ∈ [.exposing, .reading, .waiting] then some i else none := by
  rw [State.poseTarget, h, Option.filter]
  generalize s.ring.desc[i] = d
  simp [or_assoc]

theorem judgeReportPose_sLink {p : SelectPeriod} (hp : p.link = .s) {q : Quality} (hq : qualityNamed (fieldU8 p 12) = some q)
    {s : State} (reference : s.session.referenceSet = true) :
    (s.poseTarget (fieldU16 p 2) = none → judgeReportPose p (taken p s) = plain .stale (taken p s)) ∧
      ∀ i, s.poseTarget (fieldU16 p 2) = some i → judgeReportPose p (taken p s) = plain .done (taken p (s.onDesc i fun d =>
        { d with pose := .reported (fieldU16 p 4) (fieldS24 p 6) (fieldS24 p 9) q })) := by
  refine ⟨fun h => ?_, fun i h => ?_⟩ <;>
    simp [judgeReportPose, hp, hq, reference, h]

/-- A table with a star dropped (R77, R78). -/
theorem dropStar_eq {s : State} {i : Fin 24} (held : s.guidance.stars[i].state ≠ .vacant) :
    let stars := s.guidance.stars.set i Star.vacated
    let t : State := { s with guidance := { s.guidance with
      stars := stars, reacquisitionDue := decide (lockedCount stars < 8) } }
    dropStar i s =
      if 8 ≤ lockedCount s.guidance.stars ∧ lockedCount stars < 8 then raise .starCountLow t else t := by
  have : (s.guidance.stars[i].state == .vacant) = false := by simpa using held
  have table : (s.onStar i fun _ => Star.vacated).guidance.stars = s.guidance.stars.set i Star.vacated := rfl
  dsimp only
  rw [dropStar, this]
  simp only [judgeTable, table, Bool.or_false, Bool.and_eq_true, decide_eq_true_eq, Bool.false_eq_true, if_false]
  split_ifs <;> rfl

/-- Settles O26. -/
theorem poseReportsAndStarDropsTakeEffect : Obligations.PoseReportsAndStarDropsTakeEffect := by
  refine ⟨fun p s quiet long => ⟨fun hp => ?_, fun hp out => ?_, fun hp inside reference => ?_,
    fun hp reference q hq => ⟨fun none => ?_, fun i held carries unique => ?_⟩⟩, fun p s quiet long =>
    ⟨fun hi => ?_, fun i hi => ⟨fun measuring => ?_, fun idle vacant => ?_, fun idle held => ?_⟩⟩⟩
  · refine congrArg _ (answer_of_taken quiet long ?_)
    simp only [judgeReportPose, hp]
    rfl
  · refine congrArg _ (answer_of_taken quiet long ?_)
    simp only [judgeReportPose, hp, qualityNamed_of_ge out]
    rfl
  · obtain ⟨q, hq⟩ := qualityNamed_of_lt inside
    refine congrArg _ (answer_of_taken quiet long ?_)
    simp only [judgeReportPose, hp, hq, taken_session, reference]
    rfl
  · exact congrArg _ (answer_of_taken quiet long
      ((judgeReportPose_sLink hp (qualityNamed_of_getElem? hq) reference).1 (poseTarget_none none)))
  · obtain ⟨stale, reported⟩ := judgeReportPose_sLink hp (qualityNamed_of_getElem? hq) reference
    have target := poseTarget_of_carrying (carrying_of_unique held carries unique)
    refine ⟨fun dark => ?_, fun late => ?_, fun light early => ?_⟩
    · rw [if_neg fun h => by rw [dark] at h; exact nomatch h.1] at target
      exact congrArg _ (answer_of_taken quiet long (stale target))
    · rw [if_neg fun h => ?_] at target
      · exact congrArg _ (answer_of_taken quiet long (stale target))
      · have early := h.2
        generalize s.ring.desc[i] = d at late early
        cases st : d.state <;> simp [st] at late early
    · rw [if_pos ⟨light, early⟩] at target
      exact congrArg _ (answer_of_taken quiet long (reported i target))
  · refine congrArg _ (answer_of_taken quiet long ?_)
    rw [judgeDropStar, indexNamed_of_ge hi]
    rfl
  · refine congrArg _ (answer_of_taken quiet long (?_ : _ = plain .busy (taken p s)))
    have found : (s.ring.first fun d => d.state == .measuring).isSome = true := by simpa [Ring.first] using measuring
    simp [judgeDropStar, indexNamed_of_lt hi, found]
  all_goals
    have none : (s.ring.first fun d => d.state == .measuring).isSome = false := by simpa [Ring.first] using idle
    have judged : judgeDropStar p (taken p s) = plain .done (taken p (dropStar i s)) := by
      simp [judgeDropStar, indexNamed_of_lt hi, none]
  · have same : dropStar i s = s := by
      rw [dropStar, if_pos (by rw [vacant]; rfl)]
    rw [same] at judged
    exact congrArg _ (answer_of_taken quiet long judged)
  · rw [dropStar_eq held] at judged
    exact congrArg _ (answer_of_taken quiet long judged)

/-! ## Event requests (R163 to R165) -/

/-- An update of the link of a request that leaves its response and its bytes sent alone commutes with the taking. -/
theorem taken_onLink {p : SelectPeriod} {s : State} {f : LinkState → LinkState}
    (apart : ∀ l response sent, f { l with response := response, sent := sent } =
      { f l with response := response, sent := sent }) :
    (taken p s).onLink p.link f = taken p (s.onLink p.link f) := by
  unfold taken
  rw [State.onLink_onLink, State.onLink_onLink]
  exact congrArg _ (funext fun l => apart l _ _)

theorem orderNamed_of_named {p : SelectPeriod} {g : Fin 4 → EventGroup}
    (h : ∀ k : Fin 4, groupNamed (fieldU8 p (2 + k.val)) = some (g k)) :
    orderNamed p = if Function.Injective g then some [g 0, g 1, g 2, g 3] else none := by
  have groups : [2, 3, 4, 5].filterMap (fun k => groupNamed (fieldU8 p k)) = List.ofFn g := by
    have g0 : groupNamed (fieldU8 p 2) = some (g 0) := h 0
    have g1 : groupNamed (fieldU8 p 3) = some (g 1) := h 1
    have g2 : groupNamed (fieldU8 p 4) = some (g 2) := h 2
    have g3 : groupNamed (fieldU8 p 5) = some (g 3) := h 3
    simp [g0, g1, g2, g3, List.ofFn_succ]
  simp only [orderNamed, groups, List.length_ofFn, List.nodup_ofFn, true_and]
  rfl

theorem orderNamed_of_unnamed {p : SelectPeriod} {k : Fin 4} (h : 4 ≤ fieldU8 p (2 + k.val)) : orderNamed p = none := by
  have unnamed : groupNamed (fieldU8 p (2 + k.val)) = none := by
    match fieldU8 p (2 + k.val), h with
    | n + 4, _ => rfl
  have short : ([2, 3, 4, 5].filterMap fun k => groupNamed (fieldU8 p k)).length < 4 :=
    List.length_filterMap_lt_length_iff_exists.mpr ⟨2 + k.val, by fin_cases k <;> simp, unnamed⟩
  rw [orderNamed, if_neg fun both => by omega]

/-- Settles O14. -/
theorem eventRequestsServeTheirOwnLink : Obligations.EventRequestsServeTheirOwnLink := by
  refine fun p s quiet => ⟨fun long => ⟨?_, ?_⟩, fun long => fun ⟨k, out⟩ => ?_, fun long g named =>
    ⟨fun injective => ?_, fun not => ?_⟩⟩
  · have judged : judgeAcknowledge p (taken p s) = doneWith (acknowledgePayload ((s.link p.link).acknowledged (fieldEvents p 2)))
        (taken p (s.onLink p.link (LinkState.acknowledged (fieldEvents p 2)))) := by
      rw [judgeAcknowledge, taken_onLink fun _ _ _ => rfl]
      simp only [taken, State.link_onLink]
      rfl
    exact congrArg _ (answer_doneWith quiet long judged)
  · refine congrArg _ (answer_of_taken quiet long ?_)
    rw [taken_onLink fun _ _ _ => rfl]
    rfl
  · refine congrArg _ (answer_of_taken quiet long ?_)
    rw [judgeSetEventOrder, orderNamed_of_unnamed out]
    rfl
  · refine congrArg _ (answer_of_taken quiet long ?_)
    rw [judgeSetEventOrder, orderNamed_of_named named, if_pos injective, ← taken_onLink fun _ _ _ => rfl]
    rfl
  · refine congrArg _ (answer_of_taken quiet long ?_)
    rw [judgeSetEventOrder, orderNamed_of_named named, if_neg not]
    rfl

/-! ## Unknown requests and collections (R154, R156) -/

theorem sentBytes_eq (bytes : List Byte) (clocks : Nat) :
    sentBytes bytes clocks = (bytes ++ List.replicate clocks 0xff#8).take clocks := by
  rw [sentBytes, List.take_append, List.take_replicate, Nat.min_eq_left (Nat.sub_le ..)]

/-- An update of a link is seen by what it makes of that link's items. -/
theorem onLink_congr {s : State} {l : Link} {f g : LinkState → LinkState} (h : f (s.link l) = g (s.link l)) :
    s.onLink l f = s.onLink l g := by
  cases l
  · exact congrArg (fun x => { s with pLink := x }) h
  · exact congrArg (fun x => { s with sLink := x }) h

/-- Settles O36. -/
theorem unknownRequestsAndCollectionsAreServed : Obligations.UnknownRequestsAndCollectionsAreServed := by
  refine ⟨fun code p s quiet unnamed notCollect => ?_, fun l clocks s =>
    ⟨fun h => ?_, fun r b h => ?_, fun r h fits => ?_, fun r h short => ?_⟩⟩
  · have meaning : exec (.unknownRequest code p) s = .next (answer code p 1 (plain .unknown) s) := by
      have : (isRequestCode code || code == collectCode) = false := by simp [unnamed, notCollect]
      change execUnknownRequest code p s = _
      rw [execUnknownRequest, this]
      rfl
    rw [meaning, answer_of_taken quiet (Nat.le_add_left ..) rfl]
  all_goals
    refine congrArg Host.Outcome.next (onLink_congr ?_)
    simp only [LinkState.collected, h, sentBytes_eq]
  · rfl
  · rfl
  · rw [if_pos fits, ← sentBytes_eq, sentBytes, List.take_of_length_le fits]
  · rw [if_neg (Nat.not_le.mpr short), List.take_append_of_le_length short.le, ← h]

/-! ## The answers of HOLD (R149) -/

theorem afterTaking_pLink {p : SelectPeriod} (hp : p.link = .p) (s : State) : afterTaking p s = standbyWake .pLink s := by
  rw [afterTaking, hp]

theorem afterTaking_sLink {p : SelectPeriod} (hp : p.link = .s) (s : State) :
    afterTaking p s = giveUpWaiting .woken (standbyWake .sLink s) := by rw [afterTaking, hp]

/-- A request that needs the memory or the engine is answered HELD in HOLD (R149). -/
theorem answer_held {p : SelectPeriod} {s : State} {code : Byte} {need : Nat} {judge : State → Answer}
    (held : (afterTaking p s).power.state = .hold) (long : need ≤ byteCount p) :
    answer code p need (unlessHeld judge) s = answered p code .held [] [] (afterTaking p s) :=
  answer_of_judged long (unlessHeld_of_hold (by rwa [taken_power]) judge)

/-- Settles O35. -/
theorem holdAnswersHeld : Obligations.HoldAnswersHeld := by
  refine ⟨fun p s hp hold => ?_, fun p s hp hold long => ?_⟩
  · have notStandby : s.power.state ≠ .standby := by rw [hold]; decide
    have quiet := quietTaking_pLink hp notStandby
    have held (judge : State → Answer) : unlessHeld judge (taken p s) = plain .held (taken p s) :=
      unlessHeld_of_hold (by rwa [taken_power]) judge
    have onP (code : Byte) {need : Nat} (judge : State → Answer) (long : need ≤ byteCount p)
        (h : judge (taken p s) = plain .held (taken p s)) :
        answer code p need (onPOnly p judge) s = answered p code .held [] [] s :=
      answer_of_taken quiet long ((onPOnly_pLink hp ..).trans h)
    refine ⟨fun long => ⟨congrArg _ (onP _ _ long (held _)), congrArg _ (answer_of_taken quiet long (held _)),
      congrArg _ (answer_of_taken quiet long (held _)), congrArg _ (onP _ _ long (held _)), fun states =>
      congrArg _ (onP _ _ long ?_)⟩, fun long => ⟨fun finished => congrArg _ (onP _ _ long ?_), fun valid =>
      congrArg _ (onP _ _ long ?_)⟩⟩
    · have allowed : (taken p s).previewAllowed = true := by
        rcases states with h | h | h <;> simp [State.previewAllowed, h]
      simp only [judgeRequestPreview, allowed, held]
      rfl
    · simp only [judgeReadBlock, taken_session, finished, held]
      rfl
    · simp only [judgeReadPreview, taken_results, valid, held]
      rfl
  · have taking : afterTaking p s = giveUpWaiting .woken s := by
      rw [afterTaking_sLink hp, SessionRequests.standbyWake_of_not_standby (by rw [hold]; decide)]
    have held : (afterTaking p s).power.state = .hold := by
      rw [taking, giveUpWaiting]
      split_ifs <;> exact hold
    have left : giveUpWaiting .woken s = if s.power.waiting = true then
          raise .powerRefused { s with power := { s.power with waiting := false, lastRefusal := some .woken } }
        else s := rfl
    rw [← left, ← taking]
    exact ⟨congrArg _ (answer_held held long), congrArg _ (answer_held held long)⟩

/-! ## Previews and bulk reads (R131 to R136, R157) -/

/-- A wake in an entry to DOZE is kept, and a wake in DOZE begins the move to ACTIVE (R141). -/
theorem wake_of_doze {s : State} (h : s.power.state = .doze) (c : WakeCause) : wake c s = { s with
    power := if s.power.changing = true then { s.power with wakePending := true, lastWake := some c }
      else { s.power with state := .active, changing := true, lastWake := some c } } := by
  rw [wake, if_pos (by rw [h]; rfl)]
  split_ifs <;> rfl

/-- Settles O31. -/
theorem requestPreviewSetsItsMark : Obligations.RequestPreviewSetsItsMark := by
  refine fun p s hp long notStandby => ⟨fun states => ?_, fun states notHold => ⟨fun busy => ?_, fun noMark noJob => ?_⟩⟩
  all_goals
    refine congrArg _ (answer_of_taken (quietTaking_pLink hp notStandby) long ?_)
    rw [onPOnly_pLink hp]
  · have refused : s.previewAllowed = false := by
      simp only [List.mem_cons, List.not_mem_nil, or_false] at states
      rcases states with h | h | h | h | h <;> simp [State.previewAllowed, State.running, h]
    simp only [judgeRequestPreview, taken_previewAllowed, refused]
    rfl
  all_goals
    have allowed : s.previewAllowed = true := by
      simp only [List.mem_cons, List.not_mem_nil, or_false] at states
      rcases states with h | h | h | h | h <;> simp [State.previewAllowed, State.running, h]
    simp only [judgeRequestPreview, taken_previewAllowed, allowed,
      unlessHeld_of_not_hold (show (taken p s).power.state ≠ .hold by rwa [taken_power])]
  · have : (s.engine.previewPending || s.engine.job == .preview) = true := by simpa using busy
    simp only [taken_engine, this]
    rfl
  · have : (s.engine.previewPending || s.engine.job == .preview) = false := by simp [noMark, noJob]
    simp only [taken_engine, this, taken_onEngine, wake_taken]
    rfl

/-- A powered part grants a bulk read its accesses (R108). -/
theorem grantsUntil_link {s : State} (h : s.powered = true) :
    grantsUntil .link 2 s = some (s.onEngine fun e => { e with lastGranted := .link }) := by
  have awake : s.memoryAwake = true := by simp [State.memoryAwake, h]
  cases g : s.onTile <;> cases l : s.engine.lastGranted
  all_goals
    simp [grantsUntil, State.nextGrant, awake, g, l, MemoryUser.apart, arbiterGrant, recordGrant]
    try rfl

/-- A bulk read of a powered part takes its bytes at once (R132, R157). -/
theorem beginBulk_of_powered {p : SelectPeriod} {s : State} (b : BulkRead) (fields : List Nat) (h : s.powered = true) :
    beginBulk b fields (taken p s) = doneOrClamped fields (s.bulkPrefix b.stream ++ s.bulkBytes b)
      (taken p { s with engine := { s.engine with lastGranted := .link } }) := by
  have granted : grantsUntil .link 2 (taken p s) =
      some (taken p { s with engine := { s.engine with lastGranted := .link } }) := by
    rw [grantsUntil_link (by rwa [taken_powered]), taken_onEngine]
    rfl
  rw [beginBulk, taken_powered, h, if_pos rfl, granted]
  cases hs : b.stream <;> simp [State.bulkPrefix, State.bulkBytes, hs]

/-- A bulk read of a part that is not powered waits for its bytes, and is a wake in DOZE (R141, R157). -/
theorem beginBulk_of_unpowered {p : SelectPeriod} {s : State} (b : BulkRead) (fields : List Nat)
    (h : s.powered = false) : beginBulk b fields (taken p s) =
      ⟨taken p (wake .pLink s), if fields.isEmpty then .done else .doneClamped, fields, s.bulkPrefix b.stream, some b⟩ := by
  rw [beginBulk, taken_powered, h]
  cases hs : b.stream <;> simp [State.bulkPrefix, doneOrClamped]

/-- The run of bytes that a bulk read asks for, cut short at the end of its stream (R132). -/
def bulkRun (p : SelectPeriod) (stream : Stream) (size : Nat) : BulkRead :=
  ⟨stream, fieldU32 p 2, min (min (fieldU32 p 6) 32768) (size - fieldU32 p 2)⟩

/-- The outcome and the fields changed of a bulk read, by its length (R132). -/
def bulkFields (p : SelectPeriod) : List Nat := if fieldU32 p 6 ≤ 32768 then [] else [6]

theorem judgeBulk_of_inside {p : SelectPeriod} {s : State} (stream : Stream) {size : Nat}
    (hsize : s.streamSize stream = size) (inside : fieldU32 p 2 < size) :
    judgeBulk stream p (taken p s) = beginBulk (bulkRun p stream size) (bulkFields p) (taken p s) := by
  simp only [judgeBulk, taken_streamSize, hsize, if_neg (Nat.not_le.mpr inside), bulkRun, bulkFields, ← Nat.not_le, ite_not]

theorem judgeBulk_of_outside {p : SelectPeriod} {s : State} (stream : Stream) {size : Nat}
    (hsize : s.streamSize stream = size) (outside : size ≤ fieldU32 p 2) :
    judgeBulk stream p (taken p s) = refusedRange [2] (taken p s) := by
  simp only [judgeBulk, taken_streamSize, hsize, if_pos outside]

/-- The answers of a bulk read whose own checks pass, in each power state (R131, R132, R141, R157). -/
theorem answer_bulk {p : SelectPeriod} {s : State} {code : Byte} {judge : State → Answer} (hp : p.link = .p)
    (long : 10 ≤ byteCount p) (notStandby : s.power.state ≠ .standby) (stream : Stream) {size : Nat}
    (hsize : s.streamSize stream = size) (hjudge : judge (taken p s) = judgeBulk stream p (taken p s)) :
    let o : ReqOutcome := if fieldU32 p 6 ≤ 32768 then .done else .doneClamped
    let b := bulkRun p stream size
    (size ≤ fieldU32 p 2 → answer code p 10 judge s = answered p code .refusedRange [2] [] s) ∧
    (fieldU32 p 2 < size → s.powered = true → answer code p 10 judge s =
      answered p code o (bulkFields p) (s.bulkPrefix stream ++ s.bulkBytes b)
        { s with engine := { s.engine with lastGranted := .link } }) ∧
    (fieldU32 p 2 < size → s.powered = false → answer code p 10 judge s =
      answeredLater p code o (bulkFields p) (s.bulkPrefix stream) b (wake .pLink s)) := by
  have quiet := quietTaking_pLink hp notStandby
  have outcome : (if (bulkFields p).isEmpty then ReqOutcome.done else .doneClamped) =
      if fieldU32 p 6 ≤ 32768 then .done else .doneClamped := by
    unfold bulkFields
    split_ifs <;> simp_all
  refine ⟨fun outside => ?_, fun inside powered => ?_, fun inside unpowered => ?_⟩
  · exact answer_of_taken quiet long (hjudge.trans (judgeBulk_of_outside stream hsize outside))
  · refine answer_of_taken quiet long (hjudge.trans ?_)
    rw [judgeBulk_of_inside stream hsize inside, beginBulk_of_powered _ _ powered, doneOrClamped, outcome]
    rfl
  · rw [answer, answerWaking_quiet true code judge quiet long, hjudge, judgeBulk_of_inside stream hsize inside,
      beginBulk_of_unpowered _ _ unpowered, respond_taken_later, outcome]
    rfl

theorem powered_of_changing {s : State} (h : s.power.changing = true) : s.powered = false := by
  simp [State.powered, h]

theorem powered_of_doze {s : State} (h : s.power.state = .doze) : s.powered = false := by
  simp [State.powered, h]

/-- A part that can read its memory is in ACTIVE. -/
theorem active_of_powered {s : State} (h : s.powered = true) : s.power.state = .active := by
  simp only [State.powered, Bool.and_eq_true, beq_iff_eq] at h
  exact h.1

theorem judgeReadBlock_of_finished {p : SelectPeriod} {s : State} (hp : p.link = .p) (finished : s.session.state = .finished)
    (notHold : s.power.state ≠ .hold) :
    onPOnly p (judgeReadBlock p) (taken p s) = judgeBulk .output p (taken p s) := by
  simp only [onPOnly_pLink hp, judgeReadBlock, taken_session, finished, beq_self_eq_true, if_true]
  exact unlessHeld_of_not_hold (by rwa [taken_power]) _

/-- Settles O29. -/
theorem readBlockCarriesTheOutputStream : Obligations.ReadBlockCarriesTheOutputStream := by
  refine ⟨fun p s hp long finished notStandby notHold => ?_, fun p s hp long state notStandby => ?_⟩
  · obtain ⟨refused, atOnce, later⟩ := answer_bulk (code := 0x1d#8) hp long notStandby .output rfl
      (judgeReadBlock_of_finished hp finished notHold)
    refine ⟨fun outside => congrArg _ (refused outside), fun inside powered => congrArg _ (atOnce inside powered),
      fun inside active changing => ?_, fun inside doze => ?_⟩
    · have waits := later inside (powered_of_changing changing)
      rw [wake_of_not_doze _ (by rw [active]; decide)] at waits
      exact congrArg _ waits
    · have waits := later inside (powered_of_doze doze)
      rw [wake_of_doze doze] at waits
      exact congrArg _ waits
  · refine congrArg _ (answer_of_taken (quietTaking_pLink hp notStandby) long ?_)
    have : (s.session.state == .finished) = false := by simpa using state
    simp only [onPOnly_pLink hp, judgeReadBlock, taken_session, this]
    rfl

/-! ## The preview's stamp and stream (R134 to R136, R180) -/

theorem stampRecord_fields (x : PreviewStamp) : CarriesFields (stampRecord x) [(0, total16 x.note.lightsMerged),
    (2, total16 x.note.lightsGroundOnly), (4, total48 x.note.skyMs), (10, u16 x.note.pedestal), (12, u32 x.clock.toNat)] :=
  carriesFields_of_parts [] [] (by simp [stampRecord, u32Clock]) (by simp [placed, total16, total48])

theorem judgeReadPreview_of_valid {p : SelectPeriod} {s : State} (hp : p.link = .p) (valid : s.results.preview = .valid)
    (notHold : s.power.state ≠ .hold) :
    onPOnly p (judgeReadPreview p) (taken p s) = judgeBulk .preview p (taken p s) := by
  simp only [onPOnly_pLink hp, judgeReadPreview, taken_results, valid, beq_self_eq_true, if_true]
  exact unlessHeld_of_not_hold (by rwa [taken_power]) _

/-- Settles O30. -/
theorem readPreviewCarriesItsStampAndStream : Obligations.ReadPreviewCarriesItsStampAndStream := by
  refine ⟨fun p s hp long notStandby => ?_, fun x => ⟨fun small => ?_, fun small => ?_, fun small => ?_, ?_, ?_⟩,
    fun r b s waiting powered => ?_⟩
  · have bulk (valid : s.results.preview = .valid) (notHold : s.power.state ≠ .hold) :=
      answer_bulk (code := 0x1f#8) hp long notStandby .preview rfl (judgeReadPreview_of_valid hp valid notHold)
    refine ⟨fun empty => ?_, fun valid notHold outside => congrArg _ ((bulk valid notHold).1 outside),
      fun valid powered inside => ?_, fun valid active changing inside => ?_, fun valid doze inside => ?_⟩
    · refine congrArg _ (answer_of_taken (quietTaking_pLink hp notStandby) long ?_)
      simp only [onPOnly_pLink hp, judgeReadPreview, taken_results, empty]
      rfl
    · have atOnce := (bulk valid (by rw [active_of_powered powered]; decide)).2.1 inside powered
      simp only [State.bulkBytes, ← List.append_assoc] at atOnce
      exact congrArg _ atOnce
    · have waits := (bulk valid (by rw [active]; decide)).2.2 inside (powered_of_changing changing)
      rw [wake_of_not_doze _ (by rw [active]; decide)] at waits
      exact congrArg _ waits
    · have waits := (bulk valid (by rw [doze]; decide)).2.2 inside (powered_of_doze doze)
      rw [wake_of_doze doze] at waits
      exact congrArg _ waits
  · rw [← PlainReads.total16_of_lt small]
    exact PlainReads.carriesFields_of_mem (stampRecord_fields x) (by simp)
  · rw [← PlainReads.total16_of_lt small]
    exact PlainReads.carriesFields_of_mem (stampRecord_fields x) (by simp)
  · rw [← PlainReads.total48_of_lt small]
    exact PlainReads.carriesFields_of_mem (stampRecord_fields x) (by simp)
  · exact PlainReads.carriesFields_of_subset (stampRecord_fields x) (by simp)
  · simp [stampRecord, total16, total48]
  · have meaning : exec .bulkReadComplete s = .next (whenServed .link (bulkCompletes r b) s) := by
      change execBulkReadComplete s = _
      simp only [execBulkReadComplete, waiting, powered, if_true]
    rw [meaning, whenServed_link _ (by simp [State.memoryAwake, powered])]
    rfl

end Sys2Proof.Proofs.LinkRequests
end

section
/-! PROOFS. What the taking and the judgement of a request do to the power items and the pending events, for every
request; the requests that are refused; Set Power and Set Stay Awake. -/

namespace Sys2Proof.Proofs.RequestEffects

open Sys2Proof.Machine Sys2Proof.Safety Sys2Proof.Proofs.Taking Sys2Proof.Proofs.SessionRequests
  Sys2Proof.Proofs.LinkRequests

-- The declarations are elaborated one after another, which keeps the check of the whole text within its memory.
set_option Elab.async false

/-! ## States between which the power items and the pending events stay

A request may wake a dozing part and may raise events. Apart from that no judgement but that of Set Power touches the
power state or the waiting request, and none but an acknowledgement removes a pending event. -/

structure Undisturbed (s t : State) : Prop where
  power : s.power.state ≠ .doze → t.power.state = s.power.state ∧ t.power.changing = s.power.changing ∧
    t.power.lastWake = s.power.lastWake
  waiting : s.power.waiting = false → t.power.waiting = false ∧ t.power.lastRefusal = s.power.lastRefusal
  pending : ∀ l k, (s.link l).pendingSet.getLsbD k = true → (t.link l).pendingSet.getLsbD k = true

namespace Undisturbed

variable {s t : State}

theorem refl (s : State) : Undisturbed s s := ⟨fun _ => ⟨rfl, rfl, rfl⟩, fun h => ⟨h, rfl⟩, fun _ _ h => h⟩

theorem trans {u : State} (h : Undisturbed s t) (g : Undisturbed t u) : Undisturbed s u := by
  refine ⟨fun hs => ?_, fun hs => ?_, fun l k hk => g.pending l k (h.pending l k hk)⟩
  · obtain ⟨state, changing, cause⟩ := h.power hs
    rw [← state, ← changing, ← cause]
    exact g.power (by rwa [state])
  · obtain ⟨absent, refusal⟩ := h.waiting hs
    rw [← refusal]
    exact g.waiting absent

theorem ite {c : Prop} [Decidable c] {u v : State} (hu : Undisturbed s u) (hv : Undisturbed s v) :
    Undisturbed s (if c then u else v) := by
  split <;> assumption

/-- A change of other items disturbs nothing. -/
theorem apart (h : Undisturbed s t) {u : State} (power : u.power = t.power := by rfl) (pLink : u.pLink = t.pLink := by rfl)
    (sLink : u.sLink = t.sLink := by rfl) : Undisturbed s u := by
  refine ⟨fun hs => by rw [power]; exact h.power hs, fun hs => by rw [power]; exact h.waiting hs, fun l k hk => ?_⟩
  have same : u.link l = t.link l := by
    cases l
    exacts [pLink, sLink]
  rw [same]
  exact h.pending l k hk

theorem onSession (h : Undisturbed s t) (f : Session → Session) : Undisturbed s (t.onSession f) := h.apart
theorem onSeq (h : Undisturbed s t) (f : Sequencer → Sequencer) : Undisturbed s (t.onSeq f) := h.apart
theorem onPort (h : Undisturbed s t) (f : SensorPort → SensorPort) : Undisturbed s (t.onPort f) := h.apart
theorem onRing (h : Undisturbed s t) (f : Ring → Ring) : Undisturbed s (t.onRing f) := h.apart
theorem onGuidance (h : Undisturbed s t) (f : Guidance → Guidance) : Undisturbed s (t.onGuidance f) := h.apart
theorem onTileMap (h : Undisturbed s t) (f : Region TileEntry → Region TileEntry) : Undisturbed s (t.onTileMap f) := h.apart
theorem onEngine (h : Undisturbed s t) (f : Engine → Engine) : Undisturbed s (t.onEngine f) := h.apart
theorem onResults (h : Undisturbed s t) (f : Results → Results) : Undisturbed s (t.onResults f) := h.apart
theorem onLines (h : Undisturbed s t) (f : Lines → Lines) : Undisturbed s (t.onLines f) := h.apart
theorem onFree (h : Undisturbed s t) (f : Nat → Nat) : Undisturbed s (t.onFree f) := h.apart

theorem raise (h : Undisturbed s t) (e : Event) : Undisturbed s (raise e t) := by
  refine ⟨h.power, h.waiting, fun l k hk => ?_⟩
  have kept := h.pending l k hk
  have grows (x : LinkState) (hx : x.pendingSet.getLsbD k = true) : (x.raised e).pendingSet.getLsbD k = true := by
    simp [LinkState.raised, LinkState.judged, hx]
  cases l
  exacts [grows _ kept, grows _ kept]

theorem wake (h : Undisturbed s t) (c : WakeCause) : Undisturbed s (wake c t) := by
  by_cases doze : t.power.state = .doze
  · have waits : (Machine.wake c t).power.waiting = t.power.waiting ∧
        (Machine.wake c t).power.lastRefusal = t.power.lastRefusal := by
      rw [wake_of_doze doze]
      dsimp only
      split_ifs <;> exact ⟨rfl, rfl⟩
    refine ⟨fun hs => ?_, fun hs => ?_, fun l k hk => ?_⟩
    · exact absurd doze (by rw [(h.power hs).1]; exact hs)
    · rw [waits.1, waits.2]
      exact h.waiting hs
    · have same : (Machine.wake c t).link l = t.link l := by cases l <;> simp [State.link]
      rw [same]
      exact h.pending l k hk
  · rw [wake_of_not_doze _ doze]
    exact h

/-- A waiting request that is absent is not given up. -/
theorem giveUpWaiting (h : Undisturbed s t) (c : RefusalCause) : Undisturbed s (giveUpWaiting c t) := by
  by_cases waits : t.power.waiting = true
  · rw [Machine.giveUpWaiting, if_pos waits]
    refine .raise (t := t.onPower _) ⟨h.power, fun hs => ?_, h.pending⟩ _
    rw [(h.waiting hs).1] at waits
    exact nomatch waits
  · rw [Machine.giveUpWaiting, if_neg waits]
    exact h

/-! ### Session, sequencer and retirement -/

theorem enterSession (h : Undisturbed s t) (st : SessionState) : Undisturbed s (enterSession st t) := (h.onSession _).raise _

theorem enterRunning (h : Undisturbed s t) : Undisturbed s (enterRunning t) := h.enterSession _

theorem drainCheck (h : Undisturbed s t) (c : WakeCause) : Undisturbed s (drainCheck c t) :=
  .ite (.wake (.onEngine (h.enterSession .finishing) _) c) h

theorem enterDraining (h : Undisturbed s t) (c : WakeCause) : Undisturbed s (enterDraining c t) :=
  .drainCheck (.apart (h.enterSession .draining) (by simp) (by simp) (by simp)) c

theorem cadenceAfresh (h : Undisturbed s t) : Undisturbed s (cadenceAfresh t) := h.apart (by simp) (by simp) (by simp)

theorem checkSubLimit (h : Undisturbed s t) : Undisturbed s (checkSubLimit t) := by
  rcases checkSubLimit_cases t with ⟨_, _, _, e⟩ | e <;> rw [e]
  exacts [h.enterDraining _, h]

theorem checkLimits (h : Undisturbed s t) : Undisturbed s (checkLimits t) := by
  rcases checkLimits_cases t with ⟨_, _, _, e⟩ | e <;> rw [e]
  exacts [h.enterDraining _, h]

theorem applyPending (h : Undisturbed s t) : Undisturbed s (applyPending t) := by
  unfold Machine.applyPending
  split
  exacts [h, (h.onSession _).raise _]

theorem resumeRunning (h : Undisturbed s t) : Undisturbed s (resumeRunning t) := h.enterRunning.cadenceAfresh.checkLimits

theorem retireRecord (h : Undisturbed s t) (i : Fin 6) (o : SubOutcome) (resolved : Bool) :
    Undisturbed s (retireRecord i o resolved t) := (((h.onRing _).onRing _).onSession _).raise _

theorem enterWaitOpen (h : Undisturbed s t) : Undisturbed s (enterWaitOpen t) := h.apart (by simp) (by simp) (by simp)

theorem releaseShutter (h : Undisturbed s t) : Undisturbed s (releaseShutter t) := h.onLines _

theorem enterIdle (h : Undisturbed s t) : Undisturbed s (enterIdle t) := h.onSeq _

theorem sequencerPause (h : Undisturbed s t) : Undisturbed s (sequencerPause t) := by
  unfold Machine.sequencerPause
  split
  · exact h.enterIdle
  · exact h.releaseShutter.enterWaitOpen
  · split
    · exact (h.onLines _).enterIdle
    · dsimp only
      split
      · exact (((h.onLines _).onSeq _).retireRecord _ _ _).releaseShutter.enterWaitOpen
      · exact (((h.onLines _).onSeq _).retireRecord _ _ _).enterIdle
  all_goals exact h

theorem pauseSession (h : Undisturbed s t) (c : PauseCause) : Undisturbed s (pauseSession c t) :=
  .sequencerPause (.raise (h.onSession _) _)

theorem openIn (h : Undisturbed s t) (i : Fin 6) (kind : SubKind) : Undisturbed s (openIn i kind t) := by
  unfold Machine.openIn
  dsimp only
  exact .ite (.wake (.raise (.onSeq (.onLines (.onRing (.onSession h _) _) _) _) _) _)
    (.raise (.onSeq (.onLines (.onRing (.onSession h _) _) _) _) _)

theorem openSub (h : Undisturbed s t) (kind : SubKind) : Undisturbed s (openSub kind t) := by
  rcases openSub_cases kind t with ⟨i, -, e⟩ | ⟨-, e⟩ <;> rw [e]
  exacts [(h.openIn i kind).checkSubLimit, h]

theorem beginHandshake (h : Undisturbed s t) : Undisturbed s (beginHandshake t) :=
  .ite (.openSub (h.onLines _) _) (.onSeq (h.onLines _) _)

theorem skipStart (h : Undisturbed s t) : Undisturbed s (skipStart t) := by
  unfold Machine.skipStart
  exact .onSeq (.raise (.onSession h _) _) _

theorem startSub (h : Undisturbed s t) : Undisturbed s (startSub t) := by
  rcases startSub_cases t with ⟨-, -, e⟩ | ⟨-, -, e⟩ | ⟨-, -, e⟩ | ⟨-, -, e⟩ | ⟨-, -, e⟩ <;> rw [e]
  exacts [h.enterDraining _, h.onSeq _, h.skipStart, h.beginHandshake, h.openSub _]

theorem makeStart (h : Undisturbed s t) : Undisturbed s (makeStart t) := by
  unfold Machine.makeStart
  dsimp only
  split
  exacts [.ite (.startSub (h.onSeq _)) (h.onSeq _),
    .ite (.startSub (.checkLimits (.applyPending (h.onSeq _)))) (.checkLimits (.applyPending (h.onSeq _)))]

/-! ### The session requests and the tables -/

theorem armSession (h : Undisturbed s t) : Undisturbed s (armSession t) :=
  .wake (.giveUpWaiting (.onEngine (.enterSession (.onRing (.onSession h _) _) _) _) _) _

theorem startSession (h : Undisturbed s t) : Undisturbed s (startSession t) :=
  .cadenceAfresh (.enterSession (.onSeq (.onSession h _) _) _)

theorem resumeSession (h : Undisturbed s t) : Undisturbed s (resumeSession t) := .resumeRunning (.onSession h _)

theorem extendSession (h : Undisturbed s t) : Undisturbed s (extendSession t) :=
  .cadenceAfresh (.enterRunning (.onResults (.onSession h _) _))

theorem engineClose (h : Undisturbed s t) : Undisturbed s (engineClose t) :=
  .ite (.onEngine (.onEngine (.onResults h _) _) fun e => { e with job := .none, work := .none, tilesDone := 0, stop := .none })
    (.onEngine (.onEngine (.onResults h _) _) _)

theorem closeSession (h : Undisturbed s t) : Undisturbed s (closeSession t) := by
  have freed : Undisturbed s (Machine.engineClose ((portClose (sequencerClose t)).emptyRing.onRing fun r =>
      { r with lastOpened := 0, lastRetired := 0 })) :=
    .engineClose (.onRing (.onRing (.onPort (.enterIdle (.onSeq (.onLines h _) _)) _) _) _)
  have closed := Undisturbed.enterSession (.onSession (.onGuidance freed fun _ => Guidance.cleared) Session.closed) .idle
  exact .ite (closed.wake _) closed

theorem selectNow (h : Undisturbed s t) (i : Fin 4) : Undisturbed s (selectNow i t) :=
  .ite (.raise (h.onSession _) _) (h.onSession _)

theorem judgeTable (h : Undisturbed s t) (before : Nat) (setting : Bool) : Undisturbed s (judgeTable before setting t) := by
  unfold Machine.judgeTable
  exact .onGuidance (.ite (h.raise _) h) _

theorem dropStar (h : Undisturbed s t) (i : Fin 24) : Undisturbed s (dropStar i t) :=
  .ite h (.judgeTable (h.onGuidance _) _ _)

theorem configureSensor (h : Undisturbed s t) (w k : Nat) (b : Bayer) (n : Nat) :
    Undisturbed s (configureSensor w k b n t) := h.apart

theorem emptySlot (h : Undisturbed s t) (i : Fin 4) : Undisturbed s (emptySlot i t) := h.apart

theorem setStayAwake (h : Undisturbed s t) (demand : Bool) : Undisturbed s (setStayAwake demand t) := by
  have taken : Undisturbed s (t.onPower fun p => { p with stayAwake := demand }) := ⟨h.power, h.waiting, h.pending⟩
  exact .ite (taken.wake _) taken

theorem recordGrant (h : Undisturbed s t) (u : MemoryUser) : Undisturbed s (recordGrant u t) := by
  cases u
  · exact h
  all_goals exact .onEngine h fun e => { e with lastGranted := _ }

theorem grantsUntil (h : Undisturbed s t) {who : MemoryUser} {fuel : Nat} {u : State}
    (hu : grantsUntil who fuel t = some u) : Undisturbed s u := by
  induction fuel generalizing t with
  | zero => exact nomatch hu
  | succ fuel ih =>
    simp only [Machine.grantsUntil] at hu
    split at hu
    · exact nomatch hu
    · split at hu
      · cases hu
        exact h.recordGrant _
      · exact ih (h.recordGrant _) hu

/-- A change of a link that leaves its pending set as it is. -/
theorem onLink (h : Undisturbed s t) (l : Link) (f : LinkState → LinkState)
    (same : ∀ x, (f x).pendingSet = x.pendingSet := by exact fun _ => rfl) : Undisturbed s (t.onLink l f) := by
  refine ⟨by simpa using h.power, by simpa using h.waiting, fun l' k hk => ?_⟩
  have kept := h.pending l' k hk
  cases l <;> cases l' <;> first | exact kept | exact (same _).symm ▸ kept

theorem respond {code : Byte} {p : SelectPeriod} {a : Answer} (h : Undisturbed s a.state) :
    Undisturbed s (respond code p a) := h.onLink _ _

end Undisturbed

/-! ## Judgements (R158, R168) -/

/-- The outcomes of a request that has no effect (R158). -/
def refusals : List ReqOutcome := [.refusedState, .refusedLink, .refusedRange, .stale, .held, .unknown]

/-- An answer with one of those outcomes has no effect and carries no payload. -/
def CleanAnswer (s : State) (a : Answer) : Prop := a.outcome ∈ refusals → a.state = s ∧ a.payload = []

theorem CleanAnswer.of_done {s : State} {a : Answer} (h : a.outcome = .done ∨ a.outcome = .doneClamped) :
    CleanAnswer s a := fun refused => by
  rcases h with h | h <;> rw [h] at refused <;> exact absurd refused (by decide)

/-- A judgement whose answers are clean and disturb nothing. -/
structure SoundAnswer (s : State) (a : Answer) : Prop where
  clean : CleanAnswer s a
  undisturbed : Undisturbed s a.state

namespace SoundAnswer

variable {s : State}

theorem same (s : State) (o : ReqOutcome) : SoundAnswer s (plain o s) := ⟨fun _ => ⟨rfl, rfl⟩, .refl s⟩

theorem refusedRange (s : State) (fields : List Nat) : SoundAnswer s (refusedRange fields s) :=
  ⟨fun _ => ⟨rfl, rfl⟩, .refl s⟩

theorem plain {o : ReqOutcome} {t : State} (h : Undisturbed s t) (effect : o ∉ refusals := by decide) :
    SoundAnswer s (plain o t) := ⟨fun refused => absurd refused effect, h⟩

theorem doneWith {payload : List Byte} {t : State} (h : Undisturbed s t) : SoundAnswer s (doneWith payload t) :=
  ⟨fun refused => absurd refused (by decide : ReqOutcome.done ∉ refusals), h⟩

theorem doneOrClamped {fields : List Nat} {payload : List Byte} {t : State} (h : Undisturbed s t) :
    SoundAnswer s (doneOrClamped fields payload t) := by
  refine ⟨.of_done ?_, h⟩
  simp only [Machine.doneOrClamped]
  split_ifs <;> simp

theorem ite {c : Prop} [Decidable c] {a b : Answer} (ha : SoundAnswer s a) (hb : SoundAnswer s b) :
    SoundAnswer s (if c then a else b) := by
  split <;> assumption

theorem unlessHeld {judge : State → Answer} (h : SoundAnswer s (judge s)) : SoundAnswer s (unlessHeld judge s) :=
  .ite (.same s _) h

theorem onPOnly {p : SelectPeriod} {judge : State → Answer} (h : SoundAnswer s (judge s)) :
    SoundAnswer s (onPOnly p judge s) := by
  unfold Machine.onPOnly
  split
  exacts [h, .same s _]

end SoundAnswer

section
variable (p : SelectPeriod) (s : State)

theorem judgeArm_sound : SoundAnswer s (judgeArm s) := .ite (.plain (.armSession (.refl s))) (.same s _)

theorem judgeStart_sound : SoundAnswer s (judgeStart s) := by
  unfold judgeStart
  split
  exacts [.plain (.startSession (.refl s)), .same s _, .same s _]

theorem judgePause_sound : SoundAnswer s (judgePause s) := .ite (.plain (.pauseSession (.refl s) _)) (.same s _)

theorem judgeResume_sound : SoundAnswer s (judgeResume s) := .ite (.plain (.resumeSession (.refl s))) (.same s _)

theorem judgeFinish_sound : SoundAnswer s (judgeFinish s) := .ite (.plain (.enterDraining (.refl s) _)) (.same s _)

theorem judgeExtend_sound : SoundAnswer s (judgeExtend s) := .ite (.plain (.extendSession (.refl s))) (.same s _)

theorem judgeClose_sound : SoundAnswer s (judgeClose s) := .ite (.same s _) (.plain (.closeSession (.refl s)))

theorem judgeWritePlan_sound : SoundAnswer s (judgeWritePlan p s) := by
  unfold judgeWritePlan
  split
  exacts [.refusedRange s _, .ite (.same s _) (.doneOrClamped (.onSession (.refl s) _))]

theorem judgeReadPlan_sound : SoundAnswer s (judgeReadPlan p s) := by
  unfold judgeReadPlan
  split
  exacts [.refusedRange s _, .doneWith (.refl s)]

theorem judgeSelectPlan_sound : SoundAnswer s (judgeSelectPlan p s) := by
  unfold judgeSelectPlan
  split
  exacts [.refusedRange s _, .plain (.ite (.onSession (.refl s) _) (.selectNow (.refl s) _))]

theorem judgeSetPartSettings_sound : SoundAnswer s (judgeSetPartSettings p s) :=
  .ite (.doneOrClamped (.onSession (.refl s) _)) (.same s _)

theorem judgeTriggerSub_sound : SoundAnswer s (judgeTriggerSub s) :=
  .ite (.same s _) (.ite (.same s _) (.ite (.plain (.makeStart (.refl s))) (.same s _)))

theorem judgeConfigureSensor_sound : SoundAnswer s (judgeConfigureSensor p s) :=
  .ite (.doneOrClamped (.configureSensor (.refl s) _ _ _ _)) (.same s _)

theorem judgeReadSubOutcome_sound : SoundAnswer s (judgeReadSubOutcome p s) := by
  unfold judgeReadSubOutcome
  split
  exacts [.refusedRange s _, .doneWith (.refl s)]

theorem judgeReportPose_sound : SoundAnswer s (judgeReportPose p s) := by
  unfold judgeReportPose
  split
  · exact .same s _
  · split
    · exact .refusedRange s _
    · refine .ite (.same s _) ?_
      split
      exacts [.same s _, .plain (.onRing (.refl s) _)]

theorem judgeDropStar_sound : SoundAnswer s (judgeDropStar p s) := by
  unfold judgeDropStar
  split
  exacts [.refusedRange s _, .ite (.same s _) (.plain (.dropStar (.refl s) _))]

theorem judgeClearDarkSlot_sound : SoundAnswer s (judgeClearDarkSlot p s) := by
  unfold judgeClearDarkSlot
  split
  exacts [.refusedRange s _, .ite (.same s _) (.plain (.emptySlot (.refl s) _))]

theorem writeTiles_sound (first count : Nat) : SoundAnswer s (writeTiles p first count s) := by
  have answer : (writeTiles p first count s).outcome = .done ∨ (writeTiles p first count s).outcome = .doneClamped := by
    simp only [writeTiles]
    split_ifs <;> simp
  refine ⟨CleanAnswer.of_done answer, ?_⟩
  exact .onTileMap (.refl s) fun _ => _

theorem judgeWriteTiles_sound : SoundAnswer s (judgeWriteTiles p s) := by
  refine .ite ?_ (.same s _)
  split
  exacts [writeTiles_sound p s _ _, .refusedRange s _]

theorem judgeReadTiles_sound : SoundAnswer s (judgeReadTiles p s) :=
  .ite (.refusedRange s _) (.doneOrClamped (.refl s))

theorem beginBulk_sound (b : BulkRead) (fields : List Nat) : SoundAnswer s (beginBulk b fields s) := by
  unfold beginBulk
  dsimp only
  split
  next t ht =>
    split at ht
    · exact .doneOrClamped (.grantsUntil (.refl s) ht)
    · exact nomatch ht
  · have woken : SoundAnswer s (doneOrClamped fields (s.bulkPrefix b.stream) (wake .pLink s)) :=
      .doneOrClamped (.wake (.refl s) _)
    exact ⟨woken.clean, woken.undisturbed⟩

theorem judgeBulk_sound (stream : Stream) : SoundAnswer s (judgeBulk stream p s) :=
  .ite (.refusedRange s _) (beginBulk_sound s _ _)

theorem judgeReadBlock_sound : SoundAnswer s (judgeReadBlock p s) :=
  .ite (.unlessHeld (judgeBulk_sound p s _)) (.same s _)

theorem judgeReadPreview_sound : SoundAnswer s (judgeReadPreview p s) :=
  .ite (.unlessHeld (judgeBulk_sound p s _)) (.same s _)

theorem judgeRequestPreview_sound : SoundAnswer s (judgeRequestPreview s) :=
  .ite (.same s _) (.unlessHeld (judge := fun s => _)
    (.ite (.same s _) (.plain (.wake (.onEngine (.refl s) _) _))))

theorem judgeSetStayAwake_sound : SoundAnswer s (judgeSetStayAwake p s) := by
  unfold judgeSetStayAwake
  split
  · exact .same s _
  · split
    exacts [.refusedRange s _, .plain (.setStayAwake (.refl s) _)]

theorem judgeSetEventOrder_sound : SoundAnswer s (judgeSetEventOrder p s) := by
  unfold judgeSetEventOrder
  split
  exacts [.refusedRange s _, .plain (.onLink (.refl s) _ _)]

end

/-- Every request but Set Power and Acknowledge Events is answered by a sound judgement. -/
theorem exec_request {i : Instr} {l : Link} {code : Byte} {rest : List Byte} (wf : i.WellFormed = true)
    (enc : encodeSelectPeriod i = some (l, code :: rest)) (notCollect : code ≠ collectCode) (notPower : code ≠ 0x21#8)
    (notAcknowledge : code ≠ 0x25#8) : ∃ need judge,
      (∀ s, exec i s = .next (answer code ⟨l, rest⟩ need judge s)) ∧ ∀ s, SoundAnswer s (judge s) := by
  cases i
  case unknownRequest _ p =>
    cases enc
    have meaning : (isRequestCode code || code == collectCode) = false := by
      simp only [Instr.WellFormed, Bool.and_eq_true, Bool.not_eq_true', bne_iff_ne] at wf
      simp [wf]
    refine ⟨1, plain .unknown, fun s => ?_, fun s => .same s _⟩
    change execUnknownRequest code p s = _
    rw [execUnknownRequest, meaning]
    rfl
  case collection => cases enc; exact absurd rfl notCollect
  case setPower => cases enc; exact absurd rfl notPower
  case acknowledgeEvents => cases enc; exact absurd rfl notAcknowledge
  case arm p => cases enc; exact ⟨_, _, fun _ => rfl, fun s => .onPOnly (.unlessHeld (judgeArm_sound s))⟩
  case start p => cases enc; exact ⟨_, _, fun _ => rfl, fun s => .unlessHeld (judgeStart_sound s)⟩
  case pause p => cases enc; exact ⟨_, _, fun _ => rfl, fun s => judgePause_sound s⟩
  case resume p => cases enc; exact ⟨_, _, fun _ => rfl, fun s => .unlessHeld (judgeResume_sound s)⟩
  case finish p => cases enc; exact ⟨_, _, fun _ => rfl, fun s => .onPOnly (judgeFinish_sound s)⟩
  case extend p => cases enc; exact ⟨_, _, fun _ => rfl, fun s => .onPOnly (.unlessHeld (judgeExtend_sound s))⟩
  case closeSession p => cases enc; exact ⟨_, _, fun _ => rfl, fun s => .onPOnly (judgeClose_sound s)⟩
  case writePlan p => cases enc; exact ⟨_, _, fun _ => rfl, fun s => .onPOnly (judgeWritePlan_sound _ s)⟩
  case readPlan p => cases enc; exact ⟨_, _, fun _ => rfl, fun s => judgeReadPlan_sound _ s⟩
  case selectPlan p => cases enc; exact ⟨_, _, fun _ => rfl, fun s => judgeSelectPlan_sound _ s⟩
  case setPartSettings p => cases enc; exact ⟨_, _, fun _ => rfl, fun s => .onPOnly (judgeSetPartSettings_sound _ s)⟩
  case triggerSub p => cases enc; exact ⟨_, _, fun _ => rfl, fun s => judgeTriggerSub_sound s⟩
  case configureSensor p => cases enc; exact ⟨_, _, fun _ => rfl, fun s => .onPOnly (judgeConfigureSensor_sound _ s)⟩
  case readSubOutcome p => cases enc; exact ⟨_, _, fun _ => rfl, fun s => judgeReadSubOutcome_sound _ s⟩
  case reportPose p => cases enc; exact ⟨_, _, fun _ => rfl, fun s => judgeReportPose_sound _ s⟩
  case dropStar p => cases enc; exact ⟨_, _, fun _ => rfl, fun s => judgeDropStar_sound _ s⟩
  case readStarTable p => cases enc; exact ⟨_, _, fun _ => rfl, fun s => .doneWith (.onFree (.refl s) _)⟩
  case clearDarkSlot p => cases enc; exact ⟨_, _, fun _ => rfl, fun s => .onPOnly (judgeClearDarkSlot_sound _ s)⟩
  case readDarkLibrary p => cases enc; exact ⟨_, _, fun _ => rfl, fun s => .doneWith (.onFree (.refl s) _)⟩
  case writeTiles p => cases enc; exact ⟨_, _, fun _ => rfl, fun s => .onPOnly (judgeWriteTiles_sound _ s)⟩
  case readTiles p => cases enc; exact ⟨_, _, fun _ => rfl, fun s => judgeReadTiles_sound _ s⟩
  case readBlock p => cases enc; exact ⟨_, _, fun _ => rfl, fun s => .onPOnly (judgeReadBlock_sound _ s)⟩
  case requestPreview p => cases enc; exact ⟨_, _, fun _ => rfl, fun s => .onPOnly (judgeRequestPreview_sound s)⟩
  case readPreview p => cases enc; exact ⟨_, _, fun _ => rfl, fun s => .onPOnly (judgeReadPreview_sound _ s)⟩
  case setStayAwake p => cases enc; exact ⟨_, _, fun _ => rfl, fun s => judgeSetStayAwake_sound _ s⟩
  case setEventEnable p => cases enc; exact ⟨_, _, fun _ => rfl, fun s => .plain (.onLink (.refl s) _ _)⟩
  case setEventOrder p => cases enc; exact ⟨_, _, fun _ => rfl, fun s => judgeSetEventOrder_sound _ s⟩
  case readPartSettings | readSequencer | readSensor | readRing | readDrift | readGuidance | readEngine | readTotals |
      readPower | readEvents | readStatus =>
    cases enc
    exact ⟨_, _, fun _ => rfl, fun s => .doneWith (.refl s)⟩
  all_goals exact nomatch enc

/-- A request with the code of Set Power or of Acknowledge Events is that request. -/
theorem eq_of_code {i : Instr} {l : Link} {code : Byte} {rest : List Byte} (wf : i.WellFormed = true)
    (enc : encodeSelectPeriod i = some (l, code :: rest)) :
    (code = 0x21#8 → i = .setPower ⟨l, rest⟩) ∧ (code = 0x25#8 → i = .acknowledgeEvents ⟨l, rest⟩) := by
  have decoded := StepsAndValues.decode_encode i wf l _ enc
  refine ⟨?_, ?_⟩ <;> rintro rfl <;> exact (Option.some.inj decoded).symm

/-! ## The taking, whatever the answer (R144, R146) -/

theorem answer_undisturbed {p : SelectPeriod} {code : Byte} {need : Nat} {judge : State → Answer}
    (sound : ∀ u, Undisturbed u (judge u).state) (s : State) :
    Undisturbed (afterTaking p s) (answer code p need judge s) := by
  have after : Undisturbed (afterTaking p s) (taken p (afterTaking p s)) := .onLink (.refl _) _ _
  rw [answer, answerWaking, takeRequest_eq]
  split
  exacts [.respond after, .respond (after.trans (sound _))]

/-- A request leaves a response (R155). -/
theorem answerWaking_response (w : Bool) (code : Byte) (p : SelectPeriod) (need : Nat) (judge : State → Answer) (s : State) :
    ((answerWaking w code p need judge s).link p.link).response.isSome = true := by
  simp [answerWaking, respond, State.link_onLink]

/-- Outside STANDBY a request is taken alike whether or not it is a wake there. -/
theorem answerWaking_of_not_standby (w : Bool) (code : Byte) {p : SelectPeriod} (need : Nat) (judge : State → Answer)
    {s : State} (h : s.power.state ≠ .standby) : answerWaking w code p need judge s = answer code p need judge s := by
  have taking : takeRequest p w s = takeRequest p true s := by
    cases w
    · rw [takeRequest_eq]
      cases hp : p.link
      · rw [afterTaking_pLink hp, standbyWake_of_not_standby h]
        simp [takeRequest, hp, taken]
      · rw [afterTaking_sLink hp, standbyWake_of_not_standby h, ← giveUpWaiting_taken]
        simp [takeRequest, hp, taken]
    · rfl
  rw [answer, answerWaking, answerWaking, taking]

/-- The cause of a wake by a request on a link (R146). -/
def wakeCauseOf : Link → WakeCause
  | .p => .pLink
  | .s => .sLink

/-- The taking in STANDBY wakes the part, and the cause names the link (R146). -/
theorem afterTaking_of_standby (p : SelectPeriod) {s : State} (h : s.power.state = .standby) :
    (afterTaking p s).power.state = .active ∧ (afterTaking p s).power.changing = true ∧
      (afterTaking p s).power.lastWake = some (wakeCauseOf p.link) := by
  unfold afterTaking
  cases p.link
  · dsimp only
    rw [standbyWake_power h]
    exact ⟨rfl, rfl, rfl⟩
  · have given (u : State) : (giveUpWaiting .woken u).power.state = u.power.state ∧
        (giveUpWaiting .woken u).power.changing = u.power.changing ∧
        (giveUpWaiting .woken u).power.lastWake = u.power.lastWake := by
      unfold giveUpWaiting
      split_ifs <;> exact ⟨rfl, rfl, rfl⟩
    obtain ⟨state, changing, cause⟩ := given (standbyWake .sLink s)
    dsimp only
    rw [state, changing, cause, standbyWake_power h]
    exact ⟨rfl, rfl, rfl⟩

/-- The taking on the S-link gives up a waiting request (R144). -/
theorem afterTaking_of_waiting {p : SelectPeriod} (hp : p.link = .s) {s : State} (h : s.power.state ≠ .standby)
    (waits : s.power.waiting = true) : (afterTaking p s).power.waiting = false ∧
      (afterTaking p s).power.lastRefusal = some .woken ∧
      ∀ l, ((afterTaking p s).link l).pendingSet.getLsbD 13 = true := by
  rw [afterTaking_sLink hp, standbyWake_of_not_standby h, giveUpWaiting, if_pos waits]
  refine ⟨rfl, rfl, fun l => ?_⟩
  have bit (x : LinkState) : (x.raised .powerRefused).pendingSet.getLsbD 13 = true := by
    simp [LinkState.raised, LinkState.judged, show (eventBit .powerRefused).getLsbD 13 = true by decide]
  cases l
  exacts [bit _, bit _]

theorem judgeSetPower_standby_sound (p : SelectPeriod) (s : State) :
    SoundAnswer s (onPOnly p (judgeSetPower .standby p) s) := by
  refine .onPOnly ?_
  unfold judgeSetPower
  split
  exacts [.refusedRange s _, .plain (.refl s)]

/-- An acknowledgement leaves the power items and the other link alone (R163). -/
theorem answer_acknowledge (p : SelectPeriod) (s : State) :
    (answer 0x25#8 p 4 (judgeAcknowledge p) s).power = (afterTaking p s).power ∧
      (p.link = .s → (answer 0x25#8 p 4 (judgeAcknowledge p) s).pLink = (afterTaking p s).pLink) := by
  rw [answer, answerWaking, takeRequest_eq]
  split
  · refine ⟨by simp [refusedRange], fun hp => ?_⟩
    simp only [respond, refusedRange, taken, hp]
    rfl
  · refine ⟨by simp [judgeAcknowledge, doneWith], fun hp => ?_⟩
    simp only [respond, judgeAcknowledge, doneWith, taken, hp]
    rfl

/-- Settles O33. -/
theorem takingARequestWakesAndGivesUp : Obligations.TakingARequestWakesAndGivesUp := by
  refine ⟨fun i l code rest s wf enc notCollect notStandby standby => ?_, fun p s hp long code standby => ?_,
    fun i code rest s wf enc notCollect waits awake => ?_⟩
  · obtain ⟨state, changing, cause⟩ := afterTaking_of_standby ⟨l, rest⟩ standby
    obtain ⟨isPower, isAcknowledge⟩ := eq_of_code wf enc
    have woken {t : State} (h : Undisturbed (afterTaking ⟨l, rest⟩ s) t) : t.power.state = .active ∧
        t.power.changing = true ∧ t.power.lastWake = some (wakeCauseOf l) := by
      obtain ⟨a, b, c⟩ := h.power (by rw [state]; decide)
      exact ⟨a.trans state, b.trans changing, c.trans cause⟩
    have result {need : Nat} {judge : State → Answer} (sound : ∀ u, Undisturbed u (judge u).state) :
        ∃ t, answer code ⟨l, rest⟩ need judge s = t ∧ t.power.state = .active ∧ t.power.changing = true ∧
          t.power.lastWake = some (wakeCauseOf l) ∧ (t.link l).response.isSome = true := by
      obtain ⟨a, b, c⟩ := woken (answer_undisturbed (code := code) (need := need) sound s)
      exact ⟨_, rfl, a, b, c, answerWaking_response true code ⟨l, rest⟩ need judge s⟩
    by_cases power : code = 0x21#8
    · obtain rfl := isPower power
      obtain ⟨t, ht, facts⟩ := result (need := 3) fun u => (judgeSetPower_standby_sound ⟨l, rest⟩ u).undisturbed
      refine ⟨t, ?_, facts⟩
      rw [← ht, power, answer, ← standby]
      change execSetPower _ s = _
      rw [execSetPower, notStandby power]
      rfl
    · by_cases acknowledge : code = 0x25#8
      · obtain rfl := isAcknowledge acknowledge
        obtain ⟨same, -⟩ := answer_acknowledge ⟨l, rest⟩ s
        refine ⟨_, rfl, ?_⟩
        rw [same]
        exact ⟨state, changing, cause, answerWaking_response true _ ⟨l, rest⟩ 4 _ s⟩
      · obtain ⟨need, judge, meaning, sound⟩ := exec_request wf enc notCollect power acknowledge
        obtain ⟨t, ht, facts⟩ := result (need := need) fun u => (sound u).undisturbed
        exact ⟨t, by rw [meaning, ht], facts⟩
  · have quiet : takeRequest p false s = taken p s := by simp [takeRequest, hp, taken]
    have named : isSetStandby p = true := by simp [isSetStandby, long, code, powerTargetNamed]
    change execSetPower p s = _
    rw [execSetPower, named, standby, answerWaking, Bool.not_true, quiet, if_neg (by omega), onPOnly_pLink hp, judgeSetPower,
      code]
    exact congrArg _ (respond_taken ..)
  · obtain ⟨absent, refusal, bits⟩ := afterTaking_of_waiting (p := ⟨.s, rest⟩) rfl awake waits
    obtain ⟨isPower, isAcknowledge⟩ := eq_of_code wf enc
    have kept {need : Nat} {judge : State → Answer} (sound : ∀ u, Undisturbed u (judge u).state) :
        let t := answer code ⟨.s, rest⟩ need judge s
        t.power.waiting = false ∧ t.power.lastRefusal = some .woken ∧ t.pLink.pendingSet.getLsbD 13 = true ∧
          t.sLink.pendingSet.getLsbD 13 = true := by
      have h := answer_undisturbed (p := ⟨.s, rest⟩) (code := code) (need := need) sound s
      exact ⟨(h.waiting absent).1, (h.waiting absent).2.trans refusal, h.pending .p 13 (bits .p), h.pending .s 13 (bits .s)⟩
    by_cases power : code = 0x21#8
    · obtain rfl := isPower power
      have sound (u : State) : Undisturbed u (onPOnly ⟨.s, rest⟩ (judgeSetPower s.power.state ⟨.s, rest⟩) u).state := .refl u
      obtain ⟨a, b, c, d⟩ := kept (need := 3) sound
      refine ⟨_, ?_, a, b, c, fun _ => d⟩
      rw [power]
      exact congrArg _ (answerWaking_of_not_standby _ _ _ _ awake)
    · by_cases acknowledge : code = 0x25#8
      · obtain rfl := isAcknowledge acknowledge
        obtain ⟨same, sameP⟩ := answer_acknowledge ⟨.s, rest⟩ s
        refine ⟨_, rfl, ?_, ?_, ?_, fun not => absurd acknowledge not⟩
        · rw [same]; exact absent
        · rw [same]; exact refusal
        · rw [sameP rfl]; exact bits .p
      · obtain ⟨need, judge, meaning, sound⟩ := exec_request wf enc notCollect power acknowledge
        obtain ⟨a, b, c, d⟩ := kept (need := need) fun u => (sound u).undisturbed
        exact ⟨_, meaning s, a, b, c, fun _ => d⟩

/-! ## Refusals (R158) -/

/-- A request whose answer is a refusal, and whose judgement is clean, changes nothing but the response (R158). -/
theorem answered_of_refusal {p : SelectPeriod} {code : Byte} {need : Nat} {judge : State → Answer} {s : State}
    {r : Response} (quiet : QuietTaking p s) (clean : ∀ u, CleanAnswer u (judge u))
    (response : ((answer code p need judge s).link p.link).response = some ⟨r, none⟩) (refused : r.outcome ∈ refusals) :
    r.payload = [] ∧ answer code p need judge s = answered p code r.outcome r.fields [] s := by
  have responds (a : Answer) (h : answer code p need judge s = respond code p a)
      (cleanA : CleanAnswer (taken p s) a) :
      r.payload = [] ∧ answer code p need judge s = answered p code r.outcome r.fields [] s := by
    rw [h] at response ⊢
    simp only [respond, State.link_onLink, Option.some.injEq, PendingResponse.mk.injEq] at response
    obtain ⟨rfl, bulk⟩ := response
    obtain ⟨state, payload⟩ := cleanA refused
    obtain ⟨_, outcome, fields, _, _⟩ := a
    obtain rfl : _ = taken p s := state
    obtain rfl : _ = [] := payload
    obtain rfl : _ = none := bulk
    exact ⟨rfl, respond_taken ..⟩
  rw [answer, answerWaking, takeRequest_quiet true quiet] at responds response ⊢
  refine responds _ rfl ?_
  split
  exacts [fun _ => ⟨rfl, rfl⟩, clean _]

theorem exec_refusedLink {p : SelectPeriod} {s : State} {code : Byte} {need : Nat} {judge : State → Answer}
    (hp : p.link = .s) (quiet : QuietTaking p s) (long : need ≤ byteCount p) :
    answer code p need (onPOnly p judge) s = answered p code .refusedLink [] [] s :=
  answer_of_taken quiet long (onPOnly_sLink hp ..)

/-- Settles O34. -/
theorem refusedRequestsChangeNothing : Obligations.RefusedRequestsChangeNothing := by
  refine ⟨fun p s hp quiet => ?_, fun p s quiet => ?_,
    fun i l code rest s t r enc wf notCollect notPower quiet executed response refused => ?_⟩
  · have refused {code : Byte} {need : Nat} (judge : State → Answer) (long : need ≤ byteCount p) :=
      congrArg (Host.Outcome.next (φ := Fault) (ρ := Refusal)) (exec_refusedLink (code := code) (judge := judge) hp quiet long)
    refine ⟨fun long => ⟨refused _ long, refused _ long, refused _ long, refused _ long, refused _ long⟩,
      fun long => ⟨refused _ long, ?_⟩, fun long => refused _ long, fun long => refused _ long,
      fun long => refused _ long, fun long => ⟨refused _ long, refused _ long⟩, fun long => refused _ long⟩
    exact congrArg _ ((answerWaking_of_not_standby _ _ _ _ quiet.1).trans (exec_refusedLink hp quiet long))
  · have refused {code : Byte} {need : Nat} {judge : State → Answer} (long : need ≤ byteCount p)
        (h : judge (taken p s) = plain .refusedState (taken p s)) :=
      congrArg (Host.Outcome.next (φ := Fault) (ρ := Refusal)) (answer_of_taken (code := code) quiet long h)
    have notHeld (judge : State → Answer) (h : s.power.state ≠ .hold) : unlessHeld judge (taken p s) = judge (taken p s) :=
      unlessHeld_of_not_hold (by rwa [taken_power]) judge
    refine ⟨fun long => ⟨fun state notHold => refused long ?_, fun state => ⟨refused long ?_, refused long ?_⟩,
      fun state notHold => refused long ?_, fun hp state notHold => refused long ?_, fun hp state => refused long ?_,
      fun hp state notHold => refused long ?_, fun hp state => refused long ?_⟩, fun hp notIdle =>
      ⟨fun long => refused long ?_, fun long => refused long ?_, fun notArmed long => refused long ?_⟩⟩
    · rw [notHeld _ notHold]
      cases st : s.session.state <;> simp [st] at state <;> simp [judgeStart, st]
    · have stopped : s.running = false := by simpa [State.running] using state
      simp [judgePause, stopped]
    · have stopped : s.running = false := by simpa [State.running] using state
      simp [judgeTriggerSub, stopped]
    · rw [notHeld _ notHold]
      simp [judgeResume, state]
    · rw [onPOnly_pLink hp, notHeld _ notHold]
      simp [judgeArm, state]
    · have stopped : s.running = false ∧ s.session.state ≠ .paused := by
        simp only [List.mem_cons, List.not_mem_nil, or_false, not_or] at state
        exact ⟨by simp [State.running, state], state.2.2⟩
      simp [onPOnly_pLink hp, judgeFinish, stopped]
    · rw [onPOnly_pLink hp, notHeld _ notHold]
      simp [judgeExtend, state]
    · simp [onPOnly_pLink hp, judgeClose, state]
    · simp [onPOnly_pLink hp, judgeSetPartSettings, notIdle]
    · simp [onPOnly_pLink hp, judgeConfigureSensor, notIdle]
    · simp [onPOnly_pLink hp, judgeWriteTiles, notIdle, notArmed]
  · have result {need : Nat} {judge : State → Answer} (clean : ∀ u, CleanAnswer u (judge u))
        (meaning : exec i s = .next (answer code ⟨l, rest⟩ need judge s)) :
        r.payload = [] ∧ t = answered ⟨l, rest⟩ code r.outcome r.fields [] s := by
      obtain rfl := Host.Outcome.next.inj (meaning.symm.trans executed)
      exact answered_of_refusal quiet clean response refused
    by_cases acknowledge : code = 0x25#8
    · obtain rfl := (eq_of_code wf enc).2 acknowledge
      subst acknowledge
      exact result (need := 4) (fun u => .of_done (.inl rfl)) rfl
    · obtain ⟨need, judge, meaning, sound⟩ := exec_request wf enc notCollect notPower acknowledge
      exact result (fun u => (sound u).clean) (meaning s)

/-! ## Set Power and Set Stay Awake (R143, R147) -/

theorem exec_setPower {p : SelectPeriod} {s : State} (quiet : QuietTaking p s) :
    exec (.setPower p) s = .next (answer 0x21#8 p 3 (onPOnly p (judgeSetPower s.power.state p)) s) :=
  congrArg _ (answerWaking_of_not_standby _ _ _ _ quiet.1)

/-- A Set Power that names a state, outside STANDBY, from its row (R143). -/
theorem exec_setPower_row {p : SelectPeriod} {s t : State} {target : PowerTarget} {o : ReqOutcome} (hp : p.link = .p)
    (long : 3 ≤ byteCount p) (awake : s.power.state ≠ .standby) (named : powerTargetNamed (fieldU8 p 2) = some target)
    (row : judgeSetPowerAwake target (taken p s) = plain o (taken p t)) :
    exec (.setPower p) s = .next (answered p 0x21#8 o [] [] t) := by
  have notStandby : (s.power.state == .standby) = false := by simpa using awake
  rw [exec_setPower (quietTaking_pLink hp awake)]
  refine congrArg _ (answer_of_taken (quietTaking_pLink hp awake) long ?_)
  rw [onPOnly_pLink hp, judgeSetPower, named]
  dsimp only
  rw [notStandby]
  exact row

theorem powerTargetNamed_of_ge {n : Nat} (h : 2 ≤ n) : powerTargetNamed n = none := by
  match n, h with
  | n + 2, _ => rfl

theorem powerTargetNamed_of_lt {n : Nat} (h : n < 2) : ∃ target, powerTargetNamed n = some target := by
  interval_cases n <;> exact ⟨_, rfl⟩

/-- The wake of a request in STANDBY (R146). -/
theorem standbyWake_of_standby {s : State} (h : s.power.state = .standby) (c : WakeCause) : standbyWake c s = { s with
    power := { s.power with state := .active, changing := true, lastWake := some c }
    dram := if s.power.changing = true then Dram.cleared else s.dram } := by
  rw [standbyWake, if_pos (by rw [h]; rfl)]
  cases s.power.changing <;> rfl

theorem boolNamed_of_ge {n : Nat} (h : 2 ≤ n) : boolNamed n = none := by
  match n, h with
  | n + 2, _ => rfl

/-- The rows of Set Power, after the link and the code (R143). -/
theorem judgeSetPowerAwake_hold {s : State} (p : SelectPeriod) (target : PowerTarget) (hold : s.power.state = .hold) :
    judgeSetPowerAwake target (taken p s) = plain .held (taken p s) := by
  simp [judgeSetPowerAwake, hold]

theorem judgeSetPowerAwake_changing {s : State} (p : SelectPeriod) (target : PowerTarget) (notHold : s.power.state ≠ .hold)
    (changing : s.power.changing = true) :
    judgeSetPowerAwake target (taken p s) = plain .busy (taken p (refusePower .busyChanging s)) := by
  simp [judgeSetPowerAwake, notHold, changing]

theorem judgeSetPowerAwake_active {s : State} (p : SelectPeriod) (notHold : s.power.state ≠ .hold)
    (settled : s.power.changing = false) :
    judgeSetPowerAwake .active (taken p s) = plain .done (taken p (wake .pLink (dropWaiting s))) := by
  simp [judgeSetPowerAwake, notHold, settled]

theorem judgeSetPowerAwake_stayAwake {s : State} (p : SelectPeriod) (notHold : s.power.state ≠ .hold)
    (settled : s.power.changing = false) (stay : s.power.stayAwake = true) :
    judgeSetPowerAwake .standby (taken p s) =
      plain .refusedState (taken p (refusePower .stayAwake (dropWaiting s))) := by
  simp [judgeSetPowerAwake, notHold, settled, stay]

theorem judgeSetPowerAwake_standby {s : State} (p : SelectPeriod) (notHold : s.power.state ≠ .hold)
    (settled : s.power.changing = false) (noStay : s.power.stayAwake = false) :
    judgeSetPowerAwake .standby (taken p s) = plain .accepted (taken p
      (if s.power.state = .active ∧ s.idleOrLost = true then enterStandby s else waitForIdle s)) := by
  by_cases now : s.power.state = .active ∧ s.idleOrLost = true <;>
    simp [judgeSetPowerAwake, notHold, settled, noStay, now]

theorem waitForIdle_of_wakes {s : State} (doze : s.power.state = .doze) (idle : s.idleOrLost = true) :
    waitForIdle s = wake .pLink { s with power := { s.power with waiting := true } } :=
  if_pos (Bool.and_eq_true_iff.mpr ⟨beq_iff_eq.mpr doze, idle⟩)

theorem waitForIdle_of_waits {s : State} (notIdle : s.idleOrLost = false) :
    waitForIdle s = { s with power := { s.power with waiting := true } } :=
  if_neg fun h => absurd (Bool.and_eq_true_iff.mp h).2 (by
    change ¬s.idleOrLost = true
    rw [notIdle]
    decide)

/-- Settles O32. -/
theorem powerRequestsFollowTheirTables : Obligations.PowerRequestsFollowTheirTables := by
  refine ⟨fun p s hp long awake => ⟨fun code => ?_, fun code hold => ?_, fun code notHold changing => ?_,
    fun code notHold settled => ?_, fun code notHold settled stay => ?_, fun code active settled noStay idle => ?_,
    fun code doze settled noStay idle => ?_, fun code notHold settled noStay notIdle notLost => ?_⟩,
    fun p s hp long standby => ⟨fun code => ?_, fun code => ?_, fun code => ?_⟩,
    fun p s quiet long => ⟨fun hp => ?_, fun hp => ?_, fun hp code => ?_, fun hp code => ?_, fun hp code => ?_⟩⟩
  · rw [exec_setPower (quietTaking_pLink hp awake)]
    refine congrArg _ (answer_of_taken (quietTaking_pLink hp awake) long ?_)
    rw [onPOnly_pLink hp, judgeSetPower, powerTargetNamed_of_ge code]
    rfl
  · obtain ⟨target, named⟩ := powerTargetNamed_of_lt code
    exact exec_setPower_row hp long awake named (judgeSetPowerAwake_hold p target hold)
  · obtain ⟨target, named⟩ := powerTargetNamed_of_lt code
    exact exec_setPower_row hp long awake named (judgeSetPowerAwake_changing p target notHold changing)
  · exact exec_setPower_row hp long awake (by rw [code]; rfl) (judgeSetPowerAwake_active p notHold settled)
  · exact exec_setPower_row hp long awake (by rw [code]; rfl) (judgeSetPowerAwake_stayAwake p notHold settled stay)
  · have row := judgeSetPowerAwake_standby p (by rw [active]; decide) settled noStay
    rw [if_pos ⟨active, by simpa [State.idleOrLost] using idle⟩] at row
    exact exec_setPower_row hp long awake (by rw [code]; rfl) row
  · have row := judgeSetPowerAwake_standby p (by rw [doze]; decide) settled noStay
    have later : ¬(s.power.state = .active ∧ s.idleOrLost = true) := by simp [doze]
    rw [if_neg later, waitForIdle_of_wakes doze (by simpa [State.idleOrLost] using idle)] at row
    exact exec_setPower_row hp long awake (by rw [code]; rfl) row
  · have idleOrLost : s.idleOrLost = false := by simp [State.idleOrLost, notIdle, notLost]
    have row := judgeSetPowerAwake_standby p notHold settled noStay
    have later : ¬(s.power.state = .active ∧ s.idleOrLost = true) := by simp [idleOrLost]
    rw [if_neg later, waitForIdle_of_waits idleOrLost] at row
    exact exec_setPower_row hp long awake (by rw [code]; rfl) row
  · have wakes : isSetStandby p = false := by simp [isSetStandby, code, powerTargetNamed]
    change execSetPower p s = _
    rw [execSetPower, wakes, standby, ← standbyWake_of_standby standby]
    refine congrArg _ (answer_pLink hp long ?_)
    rw [onPOnly_pLink hp, judgeSetPower, code]
    rfl
  · exact takingARequestWakesAndGivesUp.2.1 p s hp long code standby
  · have wakes : isSetStandby p = false := by simp [isSetStandby, powerTargetNamed_of_ge code]
    change execSetPower p s = _
    rw [execSetPower, wakes, standby, ← standbyWake_of_standby standby]
    refine congrArg _ (answer_pLink hp long ?_)
    rw [onPOnly_pLink hp, judgeSetPower, powerTargetNamed_of_ge code]
    rfl
  · rw [exec_setPower quiet]
    exact congrArg _ (exec_refusedLink hp quiet long)
  all_goals
    refine congrArg _ (answer_of_taken quiet long ?_)
    simp only [judgeSetStayAwake, hp]
  · rfl
  · rw [code]
    exact congrArg (plain .done) (setStayAwake_taken p s false)
  · rw [code]
    exact congrArg (plain .done) (setStayAwake_taken p s true)
  · rw [boolNamed_of_ge code]
    rfl

end Sys2Proof.Proofs.RequestEffects
end

section
/-! PROOFS. The Exposure Sequencer's steps: starts and openings, the ends of exposures, the cover, REMOTE, and the limits
that drain a session. -/

namespace Sys2Proof.Proofs.SequencerSteps

open Sys2Proof.Machine Sys2Proof.Safety Sys2Proof.Proofs.Taking Sys2Proof.Proofs.SessionRequests
  Sys2Proof.Proofs.LinkRequests

-- The declarations are elaborated one after another, which keeps the check of the whole text within its memory.
set_option Elab.async false

/-! ## Starts (R31, R39, R40) -/

/-- The state in which a start has cleared the Cadence Timer and the kept expiry (R31). -/
def startTaken (s : State) : State := s.onSeq fun q => { q with cadenceTimer := none, keptExpiry := false }

theorem makeStart_of_no_pending {s : State} (running : s.running = true) (none : s.session.pendingPlan = none) :
    makeStart s = startSub (startTaken s) := by
  have going : (startTaken s).running = true := running
  have noPlan : (startTaken s).session.pendingPlan = .none := none
  unfold makeStart
  rw [← startTaken]
  simp only [noPlan, going, if_true]

theorem makeStart_of_pending {s : State} {k : Fin 4} (pending : s.session.pendingPlan = some k) :
    makeStart s = if (checkLimits (applyPending (startTaken s))).running = true then
        startSub (checkLimits (applyPending (startTaken s)))
      else checkLimits (applyPending (startTaken s)) := by
  have plan : (startTaken s).session.pendingPlan = some k := pending
  unfold makeStart
  rw [← startTaken]
  simp only [plan]

/-- The ring has a descriptor for an opening exactly when not all are in flight (R61). -/
theorem openingChoice_none_iff (r : Ring) : r.openingChoice = none ↔ ∀ i : Fin 6, r.desc[i].inFlight = true := by
  rw [StepsAndValues.openingChoice_eq, StepsAndValues.leastIndex_none_iff]
  exact forall_congr' fun i => by
    generalize r.desc[i] = d
    cases d.inFlight <;> simp

theorem openingChoice_some_of_exists {r : Ring} (h : ∃ i : Fin 6, r.desc[i].inFlight = false) :
    ∃ i, r.openingChoice = some i := by
  refine Option.ne_none_iff_exists'.mp fun none => ?_
  obtain ⟨i, hi⟩ := h
  exact absurd (((openingChoice_none_iff r).mp none i).symm.trans hi) (by decide)

/-- The sub limit that an opening meets, and that of a start (R16, R31). -/
theorem subLimitMet_iff (s : State) : s.subLimitMet = true ↔ s.plan.subLimit ≤ s.session.totals.subsOpened := by
  simp [State.subLimitMet]

theorem darkDue_iff (s : State) :
    s.darkDue = true ↔ s.plan.darkCadence ≠ 0 ∧ s.plan.darkCadence ≤ s.seq.lightsSinceDark := by
  simp [State.darkDue]

theorem startSub_of_limit {s : State} (met : s.subLimitMet = true) :
    startSub s = if s.plan.autoFinish then enterDraining .alarm s else cadenceAfterNoSub s := by
  simp [startSub, met]

theorem startSub_skipped {s : State} (unmet : s.subLimitMet = false) (none : s.ring.openingChoice = none) :
    startSub s = skipStart s := by
  simp [startSub, unmet, none]

theorem startSub_opens {s : State} (unmet : s.subLimitMet = false) {i : Fin 6} (choice : s.ring.openingChoice = some i) :
    startSub s = if s.darkDue then beginHandshake s else openSub .light s := by
  simp [startSub, unmet, choice]

/-- The Cadence Timer after a start that opens no sub (R31). -/
theorem cadenceAfterNoSub_eq (s : State) : cadenceAfterNoSub s = { s with seq := { s.seq with
    cadenceTimer := if s.plan.triggerMode = .timed then
      some (s.seq.clock + BitVec.ofNat 32 (s.plan.subLength + s.plan.gap)) else none } } := by
  have timed : (s.mode == .timed) = decide (s.plan.triggerMode = .timed) := by
    rw [State.mode]
    cases s.plan.triggerMode <;> rfl
  simp only [cadenceAfterNoSub, timed, decide_eq_true_eq]
  rfl

theorem enterDraining_not_running (c : WakeCause) (s : State) : (enterDraining c s).running = false := by
  have states : (enterDraining c s).session.state = .finishing ∨ (enterDraining c s).session.state = .draining := by
    unfold enterDraining
    rcases drainCheck_cases c (sequencerDrain (enterSession .draining s)) with ⟨-, -, e⟩ | ⟨-, e⟩ <;> rw [e]
    · left
      rw [wake_session]
      rfl
    · right
      rw [sequencerDrain_session]
      rfl
  rcases states with h | h <;> simp [State.running, h]

/-- A pending plan's application, with the start taken (R23, R31). -/
theorem applyPending_startTaken {s : State} {k : Fin 4} (pending : s.session.pendingPlan = some k) :
    applyPending (startTaken s) = raise .planSwitched { s with
      seq := { s.seq with cadenceTimer := none, keptExpiry := false }
      session := { s.session with activePlan := k, pendingPlan := none } } := by
  rcases applyPending_cases (startTaken s) with ⟨i, hi, e⟩ | ⟨none, -⟩
  · have same : some i = some k := hi.symm.trans pending
    cases same
    exact e
  · exact absurd (pending.symm.trans none) nofun

/-- Settles O40. -/
theorem aStartTakesItsSteps : Obligations.AStartTakesItsSteps := by
  refine ⟨fun s running none => ?_, fun s k running pending => ?_⟩
  · dsimp only
    rw [makeStart_of_no_pending running none]
    have metIff : (startTaken s).subLimitMet = true ↔ s.plan.subLimit ≤ s.session.totals.subsOpened := subLimitMet_iff s
    have unmet (h : ¬s.plan.subLimit ≤ s.session.totals.subsOpened) : (startTaken s).subLimitMet = false := by
      rw [← Bool.not_eq_true, metIff]
      exact h
    have dueIff : (startTaken s).darkDue = true ↔ s.plan.darkCadence ≠ 0 ∧ s.plan.darkCadence ≤ s.seq.lightsSinceDark :=
      darkDue_iff s
    refine ⟨fun limit auto => ?_, fun limit auto => ?_, fun limit all => ?_, fun limit some noDark => ?_,
      fun limit some dark isOpen => ?_, fun limit some dark closed => ?_⟩
    · rw [startSub_of_limit (metIff.mpr limit), if_pos (by exact auto)]
      rfl
    · rw [startSub_of_limit (metIff.mpr limit), if_neg (by exact Bool.eq_false_iff.mp auto), cadenceAfterNoSub_eq]
      rfl
    · have choice : (startTaken s).ring.openingChoice = .none := (openingChoice_none_iff _).mpr all
      rw [startSub_skipped (unmet limit) choice, skipStart, cadenceAfterNoSub_eq]
      rfl
    all_goals
      obtain ⟨i, choice⟩ : ∃ i, (startTaken s).ring.openingChoice = .some i := openingChoice_some_of_exists some
      rw [startSub_opens (unmet limit) choice]
    · rw [if_neg (mt dueIff.mp noDark)]
      rfl
    · rw [if_pos (dueIff.mpr dark)]
      exact if_neg (by exact Bool.eq_false_iff.mp isOpen)
    · rw [if_pos (dueIff.mpr dark)]
      exact if_pos closed
  · dsimp only
    rw [makeStart_of_pending pending, applyPending_startTaken pending]
    refine ⟨rfl, fun auto met => ?_, fun unmet => ?_⟩
    · rw [checkLimits_of_met (by exact running) (by exact auto) (by exact met), if_neg]
      exact Bool.eq_false_iff.mp (enterDraining_not_running ..)
    · rw [checkLimits_of_unmet (by exact unmet), if_pos (by exact running), makeStart_of_no_pending (by exact running) rfl]
      rfl

/-! ## Openings (R32, R42, R59, R61) -/

/-- The state of an opening before its time remaining is judged (R32). -/
def opening (i : Fin 6) (kind : SubKind) (s : State) : State :=
  let sub := s.session.totals.subsOpened + 1
  raise .subOpened { s with
    session := { s.session with totals := { s.session.totals with subsOpened := sub } }
    ring := { s.ring with
      desc := s.ring.desc.set i (Descriptor.opened sub kind s.now s.plan), lastOpened := sub }
    lines := { s.lines with trigger := true }
    seq := { s.seq with
      phase := .exposing
      current := some ⟨i, sub, kind, s.now, later s.now (plannedLength kind s.plan), !s.seq.remotePressed⟩
      shutterTimer := none
      wakeAlarm := some (later s.now (alarmDelay kind s.plan))
      lightsSinceDark := if kind == .light then saturate 255 (s.seq.lightsSinceDark + 1) else 0 } }

theorem openIn_eq (i : Fin 6) (kind : SubKind) (s : State) : openIn i kind s =
    if (opening i kind s).timeRemaining.any (· < 250) then wake .alarm (opening i kind s) else opening i kind s := rfl

theorem elapsed_self (t : Clock) : elapsed t t = 0 := by
  simp [elapsed]

/-- The time remaining right after an opening is 500 ms or the sub length (R42). -/
theorem timeRemaining_opening (i : Fin 6) (kind : SubKind) (s : State) : (opening i kind s).timeRemaining =
    if kind = .light ∧ s.plan.triggerMode = .remoteGate then some 500 else some s.plan.subLength := by
  have ran : elapsed s.now s.now = 0 := elapsed_self s.now
  have opened : (opening i kind s).ring.desc[i] =
      Descriptor.opened (s.session.totals.subsOpened + 1) kind s.now s.plan := Vector.getElem_set_self _
  have current : (opening i kind s).seq.current = some ⟨i, s.session.totals.subsOpened + 1, kind, s.now,
      later s.now (plannedLength kind s.plan), !s.seq.remotePressed⟩ := rfl
  have now : (opening i kind s).now = s.now := rfl
  simp only [State.timeRemaining, current, opened, now, ran, Bool.and_eq_true, beq_iff_eq]
  rfl

/-- What an opening leaves besides the power items, whether or not it wakes the part. -/
theorem openIn_cases (i : Fin 6) (kind : SubKind) (s : State) :
    openIn i kind s = wake .alarm (opening i kind s) ∨ openIn i kind s = opening i kind s := by
  rw [openIn_eq]
  split
  exacts [.inl rfl, .inr rfl]

theorem openIn_components (i : Fin 6) (kind : SubKind) (s : State) :
    (openIn i kind s).ring = (opening i kind s).ring ∧ (openIn i kind s).session = (opening i kind s).session ∧
      (openIn i kind s).lines = (opening i kind s).lines ∧ (openIn i kind s).seq = (opening i kind s).seq ∧
      (openIn i kind s).pLink = (opening i kind s).pLink ∧ (openIn i kind s).sLink = (opening i kind s).sLink := by
  rcases openIn_cases i kind s with e | e <;> rw [e] <;> simp

theorem saturate_eq_min (top n : Nat) : saturate top n = min top n := by
  unfold saturate
  split <;> omega

/-- An event that is raised is pending on both links (R159). -/
theorem raise_pending {e : Event} {k : Nat} (bit : (eventBit e).getLsbD k = true) (s : State) :
    (raise e s).pLink.pendingSet.getLsbD k = true ∧ (raise e s).sLink.pendingSet.getLsbD k = true := by
  simp [raise, LinkState.raised, LinkState.judged, bit, State.onPLink, State.onSLink]

/-- Settles O41. -/
theorem openingRecordsTheSub : Obligations.OpeningRecordsTheSub := by
  refine ⟨fun i kind s => ?_, fun kind s => ⟨fun i choice => ?_, fun none => ?_⟩⟩
  · obtain ⟨ring, session, lines, seq, pLink, sLink⟩ := openIn_components i kind s
    obtain ⟨bitP, bitS⟩ := raise_pending (e := .subOpened) (k := 4) (by decide) { s with
      session := (opening i kind s).session, ring := (opening i kind s).ring, lines := (opening i kind s).lines
      seq := (opening i kind s).seq }
    dsimp only
    rw [ring, session, lines, seq, pLink, sLink]
    refine ⟨rfl, rfl, rfl, rfl, rfl, ?_, ?_, ?_, rfl, rfl, by simp, by simp, by simp, by simp, by simp, by simp, by simp,
      fun long => ?_, bitP, bitS⟩
    · have length : plannedLength kind s.plan =
          if kind = .light ∧ s.plan.triggerMode = .remoteGate then 900000 else s.plan.subLength := by
        simp only [plannedLength, Bool.and_eq_true, beq_iff_eq]
      rw [← length]
      rfl
    · rw [← saturate_eq_min]
      cases kind <;> rfl
    · have delay : alarmDelay kind s.plan =
          if kind = .light ∧ s.plan.triggerMode = .remoteGate then 460 else s.plan.subLength - 40 := by
        simp only [alarmDelay, Bool.and_eq_true, beq_iff_eq]
      rw [← delay]
      rfl
    · rw [openIn_eq, timeRemaining_opening, if_neg]
      · rfl
      · by_cases gate : kind = .light ∧ s.plan.triggerMode = .remoteGate
        · simp [gate]
        · simpa [gate] using (by omega : 250 ≤ s.plan.subLength)
  · obtain ⟨-, session, -⟩ := openIn_components i kind s
    have metIff : ((openIn i kind s).running && (openIn i kind s).plan.autoFinish && (openIn i kind s).subLimitMet) = true ↔
        s.running = true ∧ s.plan.autoFinish = true ∧ s.plan.subLimit ≤ s.session.totals.subsOpened + 1 := by
      simp only [State.running, State.plan, State.subLimitMet, session, Bool.and_eq_true, decide_eq_true_eq, and_assoc]
      rfl
    have opens : openSub kind s = checkSubLimit (openIn i kind s) := by simp only [openSub, choice]
    rw [opens]
    exact ⟨fun met => if_pos (metIff.mpr met), fun unmet => if_neg (mt metIff.mp unmet)⟩
  · rcases openSub_cases kind s with ⟨i, choice, -⟩ | ⟨-, e⟩
    · exact absurd (none.symm.trans choice) nofun
    · exact e

/-! ## Where a start is made (R31, R34 to R37) -/

theorem canStart_iff (s : State) : s.canStart = true ↔ s.seq.phase = .waitStart ∧
    s.session.state ∈ [.referencing, .integrating] ∧ ∀ i : Fin 6, s.ring.desc[i].state ≠ .reading := by
  simp only [State.canStart, Bool.and_eq_true, beq_iff_eq, Option.isNone_iff_eq_none, State.reading_none_iff, and_assoc,
    State.running, Bool.or_eq_true, List.mem_cons, List.not_mem_nil, or_false]

/-- Settles O39. -/
theorem startsAreMadeWhereTheyCanBe : Obligations.StartsAreMadeWhereTheyCanBe := by
  refine fun s => ⟨canStart_iff s, fun due => ⟨fun timed can => ?_, fun cannot => ?_⟩, fun timed kept can => ?_,
    fun p quiet long running => ⟨fun mode => ?_, fun mode cannot => ?_, fun mode can => ?_⟩⟩
  · change execCadenceTimerExpiry s = _
    simp [execCadenceTimerExpiry, State.cadenceDue, due, State.now, cadenceExpires, State.mode, timed, can]
  · change execCadenceTimerExpiry s = _
    simp [execCadenceTimerExpiry, State.cadenceDue, due, State.now, cadenceExpires, cannot]
    rfl
  · change execSequencerStart s = _
    simp [execSequencerStart, State.startDue, State.mode, timed, kept, can]
  · have judged : judgeTriggerSub (taken p s) = plain .refusedState (taken p s) := by
      simp [judgeTriggerSub, running, State.mode, mode]
    exact congrArg _ (answer_of_taken quiet long judged)
  · have judged : judgeTriggerSub (taken p s) = plain .busy (taken p s) := by
      simp [judgeTriggerSub, running, State.mode, mode, cannot]
    exact congrArg _ (answer_of_taken quiet long judged)
  · have judged : judgeTriggerSub (taken p s) = plain .accepted (makeStart (taken p s)) := by
      simp [judgeTriggerSub, running, State.mode, mode, can]
    exact congrArg _ ((answerWaking_quiet true 0x0e#8 judgeTriggerSub quiet long).trans (by rw [judged]))

/-! ## The end of an exposure (R33, R37, R41, R44, R57) -/

theorem exec_exposureEnd {s : State} {c : CurrentExposure} (phase : s.seq.phase = .exposing)
    (current : s.seq.current = some c) :
    exec .exposureEnd s = .next (if s.exposureOver c = true then endExposure c s else s) := by
  change execExposureEnd s = _
  cases ended : s.exposureOver c <;> simp [execExposureEnd, State.endingExposure, phase, current, Option.filter, ended]

theorem isGateLight_iff (s : State) (c : CurrentExposure) : s.isGateLight c = true ↔
    c.kind = .light ∧ s.ring.desc[c.index].snapshot.triggerMode = .remoteGate := by
  simp only [State.isGateLight, Bool.and_eq_true, beq_iff_eq]

theorem exposureOver_iff (s : State) (c : CurrentExposure) : s.exposureOver c = true ↔
    if c.kind = .light ∧ s.ring.desc[c.index].snapshot.triggerMode = .remoteGate then
      (500 ≤ (s.seq.clock - c.start).toNat ∧ c.released = true) ∨ 900000 ≤ (s.seq.clock - c.start).toNat
    else s.ring.desc[c.index].exposure ≤ (s.seq.clock - c.start).toNat := by
  rw [State.exposureOver]
  by_cases gate : c.kind = .light ∧ s.ring.desc[c.index].snapshot.triggerMode = .remoteGate
  · rw [if_pos ((isGateLight_iff s c).mpr gate), if_pos gate]
    simp only [Bool.or_eq_true, Bool.and_eq_true, decide_eq_true_eq]
    rfl
  · rw [if_neg (mt (isGateLight_iff s c).mp gate), if_neg gate]
    simp only [decide_eq_true_eq]
    rfl

/-- The state in which an exposure has ended and the sequencer's next phase is not yet chosen (R33). -/
def exposureEnded (c : CurrentExposure) (s : State) : State :=
  let d := s.ring.desc[c.index]
  { s with
    lines := { s.lines with trigger := false }
    ring := { s.ring with desc := s.ring.desc.set c.index { d with
      state := .reading
      exposure := if c.kind = .light ∧ d.snapshot.triggerMode = .remoteGate then (s.seq.clock - c.start).toNat
        else d.exposure } }
    port := { s.port with readoutTimer := some (s.seq.clock + 2000#32) }
    seq := { s.seq with
      current := none, wakeAlarm := none
      cadenceTimer := if s.plan.triggerMode = .timed then some (s.seq.clock + BitVec.ofNat 32 d.snapshot.gap)
        else s.seq.cadenceTimer
      keptExpiry := if s.plan.triggerMode = .timed then false else s.seq.keptExpiry } }

theorem endExposure_eq (c : CurrentExposure) (s : State) : endExposure c s =
    if c.kind = .dark then enterWaitOpen (releaseShutter (exposureEnded c s))
    else if s.running = true then (exposureEnded c s).onSeq fun q => { q with phase := .waitStart }
    else enterIdle (exposureEnded c s) := by
  have gate : (if s.isGateLight c = true then elapsed c.start s.now else s.ring.desc[c.index].exposure) =
      if c.kind = .light ∧ s.ring.desc[c.index].snapshot.triggerMode = .remoteGate then (s.seq.clock - c.start).toNat
      else s.ring.desc[c.index].exposure := if_congr (isGateLight_iff s c) rfl rfl
  unfold endExposure exposureEnded
  simp only [beq_iff_eq, ← gate]
  cases c.kind <;> rfl

/-- Settles O43. -/
theorem anExposureEndsIntoReading : Obligations.AnExposureEndsIntoReading := by
  refine ⟨fun s c phase current running fixed lasted timed => ?_, fun s c phase current light => ?_⟩
  · have noGate : ¬(c.kind = .light ∧ s.ring.desc[c.index].snapshot.triggerMode = .remoteGate) := by
      rintro ⟨light, gate⟩
      rcases fixed with dark | other
      exacts [absurd (light.symm.trans dark) (by decide), other gate]
    have ended : s.exposureOver c = true := (exposureOver_iff s c).mpr (by rwa [if_neg noGate])
    dsimp only
    rw [exec_exposureEnd phase current, if_pos ended, endExposure_eq]
    refine ⟨fun light => ?_, fun dark closed => ?_⟩
    · rw [if_neg (by simp [light]), if_pos running, exposureEnded, if_neg noGate, if_pos timed, if_pos timed]
      rfl
    · rw [if_pos dark, enterWaitOpen_closed (by exact closed), exposureEnded, if_neg noGate, if_pos timed, if_pos timed]
      rfl
  · have lightGate : (c.kind = .light ∧ s.ring.desc[c.index].snapshot.triggerMode = .remoteGate) =
        (s.ring.desc[c.index].snapshot.triggerMode = .remoteGate) := by simp [light]
    have endedIff := exposureOver_iff s c
    simp only [lightGate] at endedIff
    dsimp only
    rw [exec_exposureEnd phase current]
    refine ⟨fun ended running other => ?_, fun ended stopped => ?_, fun going => if_neg (mt endedIff.mp going) ▸ rfl⟩
    · rw [if_pos (endedIff.mpr ended), endExposure_eq, if_neg (by simp [light]), if_pos running, exposureEnded,
        if_neg other, if_neg other]
      simp only [lightGate]
      rfl
    · rw [if_pos (endedIff.mpr ended), endExposure_eq, if_neg (by simp [light]), if_neg (Bool.eq_false_iff.mp stopped),
        exposureEnded]
      simp only [lightGate]
      rfl

/-! ## The cover's handshake and the wake alarm (R40, R41, R42, R44, R141) -/

theorem exec_closeTimeout {s : State} (phase : s.seq.phase = .waitShutter)
    (due : s.seq.shutterTimer = some s.seq.clock) : exec .closeTimeout s = .next (closeTimesOut s) := by
  change execCloseTimeout s = _
  simp [execCloseTimeout, State.shutterDue, phase, due, State.now]

theorem exec_openTimeout {s : State} (phase : s.seq.phase = .waitOpen)
    (due : s.seq.shutterTimer = some s.seq.clock) : exec .openTimeout s = .next (openTimesOut s) := by
  change execOpenTimeout s = _
  simp [execOpenTimeout, State.shutterDue, phase, due, State.now]

/-- An event that was pending is pending after another is raised (R159). -/
theorem raised_pending {l : LinkState} {k : Nat} (e : Event) (h : l.pendingSet.getLsbD k = true) :
    (l.raised e).pendingSet.getLsbD k = true := by
  simp [LinkState.raised, LinkState.judged, h]

theorem sequencerPause_waitOpen {s : State} (phase : s.seq.phase = .waitOpen) : sequencerPause s = s := by
  simp only [sequencerPause, phase]

/-- Settles O38. -/
theorem shutterAndAlarmMoveTheSequencer : Obligations.ShutterAndAlarmMoveTheSequencer := by
  refine ⟨fun s => ⟨fun isOpen => ?_, fun closed => ?_⟩, fun s => ⟨fun phase due => ?_, fun phase due running => ?_,
    fun phase due stopped => ?_, fun due => ?_⟩, fun c s => ⟨fun doze settled => ?_, fun doze changing => ?_,
    fun other => wake_of_not_doze c other⟩⟩
  · have asserts : exec .shutterClosedAssert s = .next (shutterClosedAsserts s) :=
      congrArg _ (if_neg (Bool.eq_false_iff.mp isOpen))
    rw [asserts]
    exact ⟨fun phase => congrArg _ (if_pos (beq_iff_eq.mpr phase)), fun phase => congrArg _ (if_neg (mt beq_iff_eq.mp phase))⟩
  · have deasserts : exec .shutterClosedDeassert s = .next (shutterClosedDeasserts s) :=
      congrArg _ (if_pos closed)
    let t : State := { s with lines := { s.lines with shutterClosed := false } }
    have awaited (phase : s.seq.phase = .waitOpen) : shutterClosedDeasserts s = coverOpen t :=
      if_pos (beq_iff_eq.mpr phase)
    rw [deasserts]
    refine ⟨fun phase running => ?_, fun phase stopped => ?_, fun phase => congrArg _ (if_neg (mt beq_iff_eq.mp phase))⟩
    all_goals rw [awaited phase]
    · exact congrArg _ ((coverOpen_cases t).resolve_right fun h => by
        simp [show t.running = true from running] at h).2
    · exact congrArg _ ((coverOpen_cases t).resolve_left fun h => by
        simp [show t.running = false from stopped] at h).2
  · rw [exec_closeTimeout phase due]
    rfl
  · have runs : (shutterFault .openTimeout s).running = true := running
    have waits : (enterPaused .shutter (shutterFault .openTimeout s)).seq.phase = .waitOpen := phase
    have result : openTimesOut s = enterIdle (enterPaused .shutter (shutterFault .openTimeout s)) := by
      rw [← sequencerPause_waitOpen waits]
      exact congrArg enterIdle (if_pos runs)
    refine ⟨_, exec_openTimeout phase due, ?_⟩
    rw [result]
    obtain ⟨bitP, bitS⟩ := raise_pending (e := .shutterFault) (k := 7) (by decide) s
    exact ⟨rfl, rfl, rfl, rfl, rfl, raised_pending .sessionState bitP, raised_pending .sessionState bitS,
      rfl, rfl, rfl, rfl, rfl⟩
  · have stops : ¬(shutterFault .openTimeout s).running = true := Bool.eq_false_iff.mp stopped
    rw [exec_openTimeout phase due, openTimesOut]
    exact congrArg _ (congrArg _ (if_neg stops))
  · change execWakeAlarmFires s = _
    simp only [execWakeAlarmFires, State.alarmDue, due, State.now, beq_self_eq_true, if_true]
    rfl
  · rw [wake_of_doze doze, if_neg (Bool.eq_false_iff.mp settled)]
  · rw [wake_of_doze doze, if_pos changing]

/-! ## REMOTE (R8, R35 to R38, R141, R144, R146) -/

theorem debounceDue_of {s : State} {low : Bool} (notHold : s.power.state ≠ .hold) (line : s.lines.remoteLow = low)
    (before : s.seq.remotePressed = !low) (due : s.seq.debounceTimer = some s.seq.clock) :
    s.debounceDue low = true := by
  cases low <;> simp_all [State.debounceDue, State.now]

/-- A press acts by the trigger mode, on the session or as a start (R8, R35 to R37). -/
theorem pressSession_eq (s : State) : pressSession s =
    if s.plan.triggerMode = .timed then
      if s.running = true then pauseSession .remote s
      else if s.session.state = .paused then resumeSession s else s
    else if s.canStart = true then makeStart s else s := by
  unfold pressSession State.mode
  cases s.plan.triggerMode <;> simp

theorem pressPower_eq (s : State) : pressPower s =
    if s.session.remoteWake = true then standbyWake .remote (giveUpWaiting .woken (wake .remote s))
    else giveUpWaiting .woken (wake .remote s) := by
  have same : (giveUpWaiting .woken (wake .remote s)).session = s.session := by simp
  simp only [pressPower, same]

/-- A press leaves the session with its plans, and the sequencer, for what it then does by the trigger mode. -/
theorem pressPower_components (s : State) : (pressPower s).session = s.session ∧ (pressPower s).seq = s.seq ∧
    (pressPower s).ring = s.ring := by
  unfold pressPower
  dsimp only
  split_ifs <;> simp

/-- What a press does by the trigger mode, once the power items have taken it. -/
theorem pressSession_rows {s w : State} (session : w.session = s.session)
    (can : w.canStart = s.canStart) :
    (s.plan.triggerMode = .timed → s.running = true → pressSession w = pauseSession .remote w) ∧
    (s.plan.triggerMode = .timed → s.session.state = .paused → pressSession w = resumeSession w) ∧
    (s.plan.triggerMode = .timed → s.running = false → s.session.state ≠ .paused → pressSession w = w) ∧
    (s.plan.triggerMode ≠ .timed → s.canStart = true → pressSession w = makeStart w) ∧
    (s.plan.triggerMode ≠ .timed → s.canStart = false → pressSession w = w) := by
  have plan : w.plan = s.plan := congrArg (fun x => x.plans[x.activePlan]) session
  have running : w.running = s.running := by
    simp only [State.running, session]
  rw [pressSession_eq, plan, running, session, can]
  refine ⟨fun timed runs => ?_, fun timed paused => ?_, fun timed stopped other => ?_, fun other starts => ?_,
    fun other cannot => ?_⟩
  · rw [if_pos timed, if_pos runs]
  · rw [if_pos timed, if_neg (by simp [State.running, paused]), if_pos paused]
  · rw [if_pos timed, if_neg (Bool.eq_false_iff.mp stopped), if_neg other]
  · rw [if_neg other, if_pos starts]
  · rw [if_neg other, if_neg (Bool.eq_false_iff.mp cannot)]

theorem giveUpWaiting_of_not_waiting {s : State} (h : s.power.waiting = false) (c : RefusalCause) :
    giveUpWaiting c s = s := if_neg (Bool.eq_false_iff.mp h)

theorem giveUpWaiting_of_waiting {s : State} (h : s.power.waiting = true) (c : RefusalCause) :
    giveUpWaiting c s = raise .powerRefused { s with power := { s.power with waiting := false, lastRefusal := some c } } :=
  if_pos h

theorem wake_waiting (c : WakeCause) (s : State) : (wake c s).power.waiting = s.power.waiting := by
  unfold wake
  split_ifs <;> rfl

theorem wake_not_standby {s : State} (h : s.power.state ≠ .standby) (c : WakeCause) :
    (wake c s).power.state ≠ .standby := by
  by_cases doze : s.power.state = .doze
  · rw [wake_of_doze doze]
    split_ifs <;> simp [doze]
  · rwa [wake_of_not_doze _ doze]

theorem giveUpWaiting_state (c : RefusalCause) (s : State) : (giveUpWaiting c s).power.state = s.power.state := by
  unfold giveUpWaiting
  split_ifs <;> rfl

/-- Outside STANDBY a press wakes from DOZE and gives up a waiting request, whatever the remote wake (R141, R144). -/
theorem pressPower_of_not_standby {s : State} (h : s.power.state ≠ .standby) :
    pressPower s = giveUpWaiting .woken (wake .remote s) := by
  have still : (giveUpWaiting .woken (wake .remote s)).power.state ≠ .standby := by
    rw [giveUpWaiting_state]
    exact wake_not_standby h _
  rw [pressPower, standbyWake_of_not_standby still, ite_self]

theorem standbyWake_keeps (c : WakeCause) (s : State) : (standbyWake c s).power.waiting = s.power.waiting ∧
    (standbyWake c s).power.lastRefusal = s.power.lastRefusal ∧ (standbyWake c s).pLink = s.pLink ∧
    (standbyWake c s).sLink = s.sLink := by
  unfold standbyWake
  split_ifs <;> exact ⟨rfl, rfl, rfl, rfl⟩

/-- A press gives up a waiting STANDBY request with POWER_REFUSED (R144). -/
theorem pressPower_of_waiting {s : State} (h : s.power.waiting = true) :
    (pressPower s).power.waiting = false ∧ (pressPower s).power.lastRefusal = some .woken ∧
      (pressPower s).pLink.pendingSet.getLsbD 13 = true ∧ (pressPower s).sLink.pendingSet.getLsbD 13 = true := by
  have waits : (wake .remote s).power.waiting = true := (wake_waiting .remote s).trans h
  obtain ⟨waiting, refusal, pLink, sLink⟩ := standbyWake_keeps .remote (giveUpWaiting .woken (wake .remote s))
  unfold pressPower
  dsimp only
  split_ifs
  · rw [waiting, refusal, pLink, sLink, giveUpWaiting_of_waiting waits]
    exact ⟨rfl, rfl, raise_pending (by decide) _⟩
  · rw [giveUpWaiting_of_waiting waits]
    exact ⟨rfl, rfl, raise_pending (by decide) _⟩

theorem remoteRelease_of_not_exposing {s : State} (h : s.seq.phase ≠ .exposing) :
    remoteRelease s = debounced false s := by
  have phase : (debounced false s).seq.phase ≠ .exposing := h
  unfold remoteRelease
  dsimp only
  split
  · contradiction
  · rfl

theorem remoteRelease_of_exposing {s : State} {c : CurrentExposure} (phase : s.seq.phase = .exposing)
    (current : s.seq.current = some c) : remoteRelease s =
      if s.isGateLight c = true then releaseGate c (debounced false s) else debounced false s := by
  have phase' : (debounced false s).seq.phase = .exposing := phase
  have current' : (debounced false s).seq.current = some c := current
  simp only [remoteRelease, phase', current']
  rfl

/-- Settles O37. -/
theorem remoteIsDebouncedAndActsByMode : Obligations.RemoteIsDebouncedAndActsByMode := by
  refine ⟨fun low s change notHold => ?_, fun s active settled line before due => ?_,
    fun s notHold line before due => ?_, fun s notHold line before due => ?_⟩
  · change execRemoteLineChange low s = _
    have hold : (s.power.state == .hold) = false := by simpa using notHold
    simp only [execRemoteLineChange, beq_iff_eq, if_neg change, remoteChanged, State.onLines, State.onSeq, hold,
      Bool.or_false]
    rfl
  · have pressed : exec .remotePress s = .next (pressSession (pressPower (debounced true s))) :=
      congrArg _ (if_pos (debounceDue_of (by simp [active]) line before due))
    have kept : pressPower (debounced true s) = debounced true s := by
      have awake : wake .remote (debounced true s) = debounced true s :=
        wake_of_not_doze _ (by exact fun h => absurd (active.symm.trans h) (by decide))
      rw [pressPower, awake, giveUpWaiting_of_not_waiting (by exact settled),
        standbyWake_of_not_standby (by exact fun h => absurd (active.symm.trans h) (by decide)), ite_self]
    rw [pressed, kept]
    obtain ⟨pauses, resumes, other, starts, cannot⟩ :=
      pressSession_rows (s := s) (w := debounced true s) rfl rfl
    exact ⟨fun a b => congrArg _ (pauses a b), fun a b => congrArg _ (resumes a b), fun a b c => congrArg _ (other a b c),
      fun a b => congrArg _ (starts a b), fun a b => congrArg _ (cannot a b)⟩
  · have pressed : exec .remotePress s = .next (pressSession (pressPower (debounced true s))) :=
      congrArg _ (if_pos (debounceDue_of notHold line before due))
    obtain ⟨session, seq, ring⟩ := pressPower_components (debounced true s)
    have can : (pressPower (debounced true s)).canStart = s.canStart := by
      simp only [State.canStart, State.running, State.reading, session, seq, ring]
      rfl
    obtain ⟨pauses, resumes, other, starts, cannot⟩ := pressSession_rows session can
    rw [pressed]
    intro d u w
    have taken : pressPower d = w := pressPower_eq d
    clear_value w u
    subst taken
    refine ⟨fun a b => congrArg _ (pauses a b), fun a b => congrArg _ (resumes a b), fun a b c => congrArg _ (other a b c),
      fun a b => congrArg _ (starts a b), fun a b => congrArg _ (cannot a b), fun quiet => ?_, fun waits => ?_⟩
    · have unchanged (h : s.power.state ≠ .doze) : giveUpWaiting .woken (wake .remote (debounced true s)) =
          debounced true s := by
        rw [giveUpWaiting_of_not_waiting (by rw [wake_waiting]; exact quiet), wake_of_not_doze _ (by exact h)]
      refine ⟨fun doze settled => ?_, fun doze changing => ?_, fun standby on => ?_, fun standby off => ?_,
        fun active => ?_⟩
      · refine (pressPower_of_not_standby (by exact fun h => absurd (doze.symm.trans h) (by decide))).trans ?_
        rw [giveUpWaiting_of_not_waiting (by rw [wake_waiting]; exact quiet), wake_of_doze (by exact doze),
          if_neg (by exact Bool.eq_false_iff.mp settled)]
      · refine (pressPower_of_not_standby (by exact fun h => absurd (doze.symm.trans h) (by decide))).trans ?_
        rw [giveUpWaiting_of_not_waiting (by rw [wake_waiting]; exact quiet), wake_of_doze (by exact doze),
          if_pos (by exact changing)]
      · rw [pressPower_eq]
        refine (if_pos on).trans ((congrArg _ (unchanged (by simp [standby]))).trans ?_)
        exact RequestEffects.standbyWake_of_standby (s := debounced true s) standby .remote
      · rw [pressPower_eq]
        exact (if_neg (by exact Bool.eq_false_iff.mp off)).trans (unchanged (by simp [standby]))
      · exact (pressPower_of_not_standby (by exact fun h => absurd (active.symm.trans h) (by decide))).trans
          (unchanged (by simp [active]))
    · obtain ⟨notWaiting, refusal, bitP, bitS⟩ := pressPower_of_waiting (s := debounced true s) waits
      refine ⟨notWaiting, refusal, bitP, bitS, fun active => ?_⟩
      refine (pressPower_of_not_standby (by exact fun h => absurd (active.symm.trans h) (by decide))).trans ?_
      rw [wake_of_not_doze _ (by exact fun h => absurd (active.symm.trans h) (by decide))]
      exact giveUpWaiting_of_waiting (by exact waits) _
  · have released : exec .remoteRelease s = .next (remoteRelease s) :=
      congrArg _ (if_pos (debounceDue_of notHold line before due))
    rw [released]
    refine ⟨fun phase => congrArg _ (remoteRelease_of_not_exposing phase), fun c phase current light gate =>
      ⟨fun long => ?_, fun short => ?_⟩, fun c phase current fixed => ?_⟩
    all_goals rw [remoteRelease_of_exposing phase current]
    · rw [if_pos ((isGateLight_iff s c).mpr ⟨light, gate⟩)]
      exact congrArg _ (if_pos (by exact long))
    · rw [if_pos ((isGateLight_iff s c).mpr ⟨light, gate⟩)]
      exact congrArg _ (if_neg (by exact Nat.not_le.mpr short))
    · refine congrArg _ (if_neg (mt (isGateLight_iff s c).mp ?_))
      rintro ⟨light, gate⟩
      rcases fixed with dark | other
      exacts [absurd (light.symm.trans dark) (by decide), other gate]

/-! ## Limits and drains (R13, R15) -/

theorem counterPause_of_not_running {s : State} (stopped : s.running = false) (o : SubOutcome) : counterPause o s = s := by
  have notReferencing : (s.session.state == .referencing) = false := by
    simp_all [State.running]
  unfold counterPause
  split
  · exact if_neg (by simp [notReferencing])
  · exact if_neg (by simp [stopped])
  · exact if_neg (by simp [stopped])
  · rfl

/-- A retirement writes its descriptor and no other (R64). -/
theorem retireRecord_desc (i : Fin 6) (o : SubOutcome) (resolved : Bool) (s : State) :
    (retireRecord i o resolved s).ring.desc[i] = { s.ring.desc[i] with state := .retired, outcome := some o } ∧
    ∀ j : Fin 6, j ≠ i → (retireRecord i o resolved s).ring.desc[j] = s.ring.desc[j] := by
  have desc : (retireRecord i o resolved s).ring.desc =
      s.ring.desc.set i { s.ring.desc[i] with state := .retired, outcome := some o } := rfl
  refine ⟨?_, fun j other => ?_⟩
  · rw [desc]
    exact Vector.getElem_set_self _
  · rw [desc]
    exact Vector.getElem_set_ne _ _ fun same => other (Fin.ext same.symm)

/-- Settles O48. -/
theorem limitsDrainAndDrainsFinish : Obligations.LimitsDrainAndDrainsFinish := by
  refine ⟨fun s => ⟨fun running auto limited met phase some => ?_, fun draining drained => ?_⟩,
    fun i o resolved s draining => ?_⟩
  · have durationMet : s.durationMet = true := by
      simpa [State.durationMet] using ⟨limited, met⟩
    have due : exec .durationLimitReached s = .next (enterDraining .alarm s) :=
      congrArg _ (if_pos (by simp [State.durationDue, running, auto, durationMet]))
    have waits : (enterSession .draining s).seq.phase = .waitStart := phase
    have drains : sequencerDrain (enterSession .draining s) = enterIdle (enterSession .draining s) := by
      simp only [sequencerDrain, waits]
    obtain ⟨i, inFlight⟩ := some
    rw [due, enterDraining, drains, drainCheck_of_inFlight _ (i := i) (by exact inFlight)]
    rfl
  · change execDrainComplete s = _
    rw [execDrainComplete]
    rw [drainCheck_of_drained _ draining drained]
    rfl
  · have state : (retireRecord i o resolved s).session.state = .draining := draining
    obtain ⟨own, others⟩ := retireRecord_desc i o resolved s
    have noPause : counterPause o (retireRecord i o resolved s) = retireRecord i o resolved s :=
      counterPause_of_not_running (by simp [State.running, state]) o
    dsimp only
    rw [retire, noPause]
    refine ⟨fun drained => ?_, fun ⟨j, other, inFlight⟩ => drainCheck_of_inFlight _ (i := j) (by rwa [others j other])⟩
    rw [drainCheck_of_drained _ state]
    · rfl
    · intro j
      by_cases same : j = i
      · rw [same, own]
        rfl
      · rw [others j same, drained j same]

end Sys2Proof.Proofs.SequencerSteps
end

section
/-! PROOFS. Retirements and the pauses that follow them, and the reception of frames. -/

namespace Sys2Proof.Proofs.RetirementsAndFrames

open Sys2Proof.Machine Sys2Proof.Safety Sys2Proof.Proofs.SessionRequests Sys2Proof.Proofs.SequencerSteps

-- The declarations are elaborated one after another, which keeps the check of the whole text within its memory.
set_option Elab.async false

/-! ## The account of a retirement (R26, R64, R181) -/

theorem length_filter_finRange (f : Fin 6 → Bool) :
    ((List.finRange 6).filter f).length = (Finset.univ.filter fun i => f i = true).card := by
  rw [Fin.univ_def]
  simp [Finset.filter, Finset.card]

/-- A test that fails at one place more holds at one place fewer. -/
theorem length_filter_finRange_of_cleared {f g : Fin 6 → Bool} {i : Fin 6} (before : f i = true) (after : g i = false)
    (others : ∀ j, j ≠ i → g j = f j) :
    ((List.finRange 6).filter g).length + 1 = ((List.finRange 6).filter f).length := by
  rw [length_filter_finRange, length_filter_finRange]
  have erased : (Finset.univ.filter fun j => g j = true) = (Finset.univ.filter fun j => f j = true).erase i := by
    ext j
    by_cases same : j = i
    · simp [same, after]
    · simp [same, others j same]
  rw [erased]
  exact Finset.card_erase_add_one (by simp [before])

theorem retiredTotal_retire (t : Totals) (o : SubOutcome) (ms : Nat) (h : o ≠ .partialMerge) :
    retiredTotal (t.retire o ms) = retiredTotal t + 1 := by
  unfold retiredTotal
  rcases o with _ | _ | r | _ | _ | _
  case rejected => cases r <;> simp only [Totals.retire] <;> omega
  case partialMerge => exact absurd rfl h
  all_goals simp only [Totals.retire]; omega

theorem subsOpened_retire (t : Totals) (o : SubOutcome) (ms : Nat) : (t.retire o ms).subsOpened = t.subsOpened := by
  rcases o with _ | _ | r | _ | _ | _
  case rejected => cases r <;> rfl
  all_goals rfl

/-- The pause that the counters call for after a retirement (R9 to R11). -/
theorem counterPause_eq (o : SubOutcome) (s : State) : counterPause o s =
    if o = .groundOnly .referenceFailed ∧ s.session.state = .referencing ∧ s.session.attempts = 4 then
      pauseSession .starless s
    else if o = .rejected .moved ∧ s.running = true ∧ s.session.movedCount = 3 then pauseSession .moved s
    else if o = .rejected .geometry ∧ s.running = true ∧ 3 ≤ s.session.geometryCount then
      pauseSession .sensor { s with session := { s.session with geometryCount := 0 } }
    else s := by
  rcases o with _ | g | r | _ | _ | _
  case groundOnly =>
    cases g <;> simp [counterPause]
  case rejected =>
    cases r <;> simp [counterPause]
    rfl
  all_goals simp [counterPause]

/-- What the sequencer's pause does to the record: it retires the sub that exposes, and no other (R43). -/
theorem sequencerPause_record (s : State) :
    (∃ c, s.seq.phase = .exposing ∧ s.seq.current = some c ∧
      (sequencerPause s).ring = (retireRecord c.index (.rejected .paused) false s).ring ∧
      (sequencerPause s).session = (retireRecord c.index (.rejected .paused) false s).session ∧
      (sequencerPause s).pLink = s.pLink.raised .subRetired ∧ (sequencerPause s).sLink = s.sLink.raised .subRetired) ∨
    ((sequencerPause s).ring = s.ring ∧ (sequencerPause s).session = s.session ∧
      (sequencerPause s).pLink = s.pLink ∧ (sequencerPause s).sLink = s.sLink) := by
  unfold sequencerPause
  split
  case h_3 exposing =>
    split
    case h_1 => right; simp
    case h_2 c current =>
      refine .inl ⟨c, exposing, current, ?_⟩
      dsimp only
      split
      · rw [enterWaitOpen_ring, enterWaitOpen_session, enterWaitOpen_pLink, enterWaitOpen_sLink]
        exact ⟨rfl, rfl, rfl, rfl⟩
      · exact ⟨rfl, rfl, rfl, rfl⟩
  all_goals right; simp

theorem enterWaitOpen_current (s : State) : (enterWaitOpen s).seq.current = s.seq.current := by
  rcases enterWaitOpen_cases s with ⟨-, e⟩ | ⟨-, e⟩
  · rw [e]
  · rcases coverOpen_cases s with ⟨-, e'⟩ | ⟨-, e'⟩ <;> rw [e, e']

theorem sequencerPause_current (s : State) :
    (sequencerPause s).seq.current = if s.seq.phase = .exposing then none else s.seq.current := by
  unfold sequencerPause
  split
  case h_3 exposing =>
    rw [if_pos exposing]
    split
    case h_1 none => exact none
    case h_2 =>
      dsimp only
      split
      · rw [enterWaitOpen_current]
        rfl
      · rfl
  case h_2 phase =>
    rw [enterWaitOpen_current, if_neg (by simp [phase])]
    rfl
  all_goals
    next phase =>
      exact (if_neg (by simp [phase])).symm

/-- Settles O47. -/
theorem retirementsKeepTheAccount : Obligations.RetirementsKeepTheAccount := by
  refine ⟨fun i o resolved s inFlight => ?_, fun i o resolved s notDraining => ?_, fun cause s => ?_⟩
  · obtain ⟨own, others⟩ := retireRecord_desc i o resolved s
    obtain ⟨bitP, bitS⟩ := raise_pending (e := .subRetired) (k := 5) (by decide) s
    dsimp only
    refine ⟨rfl, length_filter_finRange_of_cleared inFlight (by rw [own]; rfl) fun j h => by rw [others j h], fun h => retiredTotal_retire _ o _ h,
      fun h => by subst h; rfl, subsOpened_retire _ o _, ?_, bitP, bitS, rfl, rfl, rfl, rfl, rfl, rfl, rfl, rfl⟩
    rw [retireRecord_eq]
    simp only [attemptsAfter, movedAfter, geometryAfter, saturate_eq_min, raise_session]
    rcases o with _ | _ | r | _ | _ | _
    case rejected => cases r <;> rfl
    all_goals rfl
  · have state : (counterPause o (retireRecord i o resolved s)).session.state ≠ .draining := by
      rw [counterPause_eq]
      split_ifs
      · rw [pauseSession, (sequencerPause_session _).1]
        nofun
      · rw [pauseSession, (sequencerPause_session _).1]
        nofun
      · rw [pauseSession, (sequencerPause_session _).1]
        nofun
      · exact notDraining
    have attempts : (retireRecord i o resolved s).session.attempts = attemptsAfter o s.session.attempts := rfl
    have movedCount : (retireRecord i o resolved s).session.movedCount = movedAfter o resolved s.session.movedCount := rfl
    have geometryCount : (retireRecord i o resolved s).session.geometryCount = geometryAfter o s.session.geometryCount := rfl
    have sameState : (retireRecord i o resolved s).session.state = s.session.state := rfl
    have sameRunning : (retireRecord i o resolved s).running = s.running := rfl
    dsimp only
    rw [retire, drainCheck_of_not_draining _ state, counterPause_eq, attempts, movedCount, geometryCount, sameState,
      sameRunning]
    have fourth : (o = .groundOnly .referenceFailed ∧ s.session.state = .referencing ∧
        attemptsAfter o s.session.attempts = 4) ↔
        o = .groundOnly .referenceFailed ∧ s.session.state = .referencing ∧ s.session.attempts = 3 :=
      and_congr_right fun h => and_congr_right fun _ => by
        rw [attemptsAfter, if_pos h, saturate_eq_min]
        omega
    have third : (o = .rejected .moved ∧ s.running = true ∧ movedAfter o resolved s.session.movedCount = 3) ↔
        o = .rejected .moved ∧ s.running = true ∧ s.session.movedCount = 2 :=
      and_congr_right fun h => and_congr_right fun _ => by
        rw [movedAfter, if_pos h, saturate_eq_min]
        omega
    have thirdFrame : (o = .rejected .geometry ∧ s.running = true ∧ 3 ≤ geometryAfter o s.session.geometryCount) ↔
        o = .rejected .geometry ∧ s.running = true ∧ 2 ≤ s.session.geometryCount :=
      and_congr_right fun h => and_congr_right fun _ => by
        rw [geometryAfter, if_pos h, saturate_eq_min]
        omega
    simp only [fourth, third, thirdFrame]
    refine ⟨fun h => if_pos h, fun h => ?_, fun h => ?_, fun a b c => ?_⟩
    · rw [if_neg (by simp [h.1]), if_pos h]
    · rw [if_neg (by simp [h.1]), if_neg (by simp [h.1]), if_pos h]
      rfl
    · rw [if_neg a, if_neg b, if_neg c]
  · obtain ⟨state, pauseCause⟩ := sequencerPause_session (enterPaused cause s)
    have bits := raise_pending (e := .sessionState) (k := 0) (by decide)
      (s.onSession fun x => { x with state := .paused, pauseCause := some cause })
    dsimp only
    refine ⟨state, pauseCause, sequencerPause_current (enterPaused cause s), ?_, ?_, by simp, by simp, by simp, by simp,
      by simp, by simp⟩
    · rcases sequencerPause_record (enterPaused cause s) with ⟨c, -, -, -, -, link, -⟩ | ⟨-, -, link, -⟩
      · rw [pauseSession, link]
        exact raised_pending _ bits.1
      · rw [pauseSession, link]
        exact bits.1
    · rcases sequencerPause_record (enterPaused cause s) with ⟨c, -, -, -, -, -, link⟩ | ⟨-, -, -, link⟩
      · rw [pauseSession, link]
        exact raised_pending _ bits.2
      · rw [pauseSession, link]
        exact bits.2

/-! ## Retirements seen from one descriptor -/

/-- The sequencer's pause leaves every descriptor but the one that exposes (R43). -/
theorem sequencerPause_other {s : State} {i : Fin 6}
    (h : s.seq.phase = .exposing → ∀ c, s.seq.current = some c → c.index ≠ i) :
    (sequencerPause s).ring.desc[i] = s.ring.desc[i] := by
  rcases sequencerPause_record s with ⟨c, exposing, current, ring, -⟩ | ⟨ring, -⟩
  · rw [ring, (retireRecord_desc ..).2 i (h exposing c current).symm]
  · rw [ring]

/-- The sequencer's pause brings no descriptor into READING. -/
theorem sequencerPause_reading {s : State} {j : Fin 6} (h : s.ring.desc[j].state ≠ .reading) :
    (sequencerPause s).ring.desc[j].state ≠ .reading := by
  rcases sequencerPause_record s with ⟨c, -, -, ring, -⟩ | ⟨ring, -⟩
  · rw [ring]
    by_cases own : j = c.index
    · rw [own, (retireRecord_desc ..).1]
      nofun
    · rwa [(retireRecord_desc ..).2 j own]
  · rwa [ring]

/-- The sequencer's pause counts no frame as failed. -/
theorem sequencerPause_rejectedGeometry (s : State) :
    (sequencerPause s).session.totals.rejectedGeometry = s.session.totals.rejectedGeometry := by
  rcases sequencerPause_record s with ⟨c, -, -, -, session, -⟩ | ⟨-, session, -⟩ <;> rw [session]
  rfl

theorem drainCheck_totals (c : WakeCause) (s : State) : (drainCheck c s).session.totals = s.session.totals := by
  rcases drainCheck_cases c s with ⟨-, -, e⟩ | ⟨-, e⟩ <;> rw [e]
  rw [wake_session]
  rfl

theorem counterPause_geometry (s : State) : counterPause (.rejected .geometry) s =
    if s.running = true ∧ 3 ≤ s.session.geometryCount then
      pauseSession .sensor { s with session := { s.session with geometryCount := 0 } }
    else s := by
  simp [counterPause_eq]

/-- What a failed frame's retirement does to its descriptor and to the account (R57, R64). -/
theorem retire_geometry {s : State} {i : Fin 6}
    (idle : s.seq.phase = .exposing → ∀ c, s.seq.current = some c → c.index ≠ i) :
    (retire i (.rejected .geometry) false s).ring.desc[i] =
      { s.ring.desc[i] with state := .retired, outcome := some (.rejected .geometry) } ∧
    (retire i (.rejected .geometry) false s).session.totals.rejectedGeometry =
      s.session.totals.rejectedGeometry + 1 := by
  rw [retire, drainCheck_ring, drainCheck_totals, counterPause_geometry]
  have record := (retireRecord_desc i (.rejected .geometry) false s).1
  split_ifs
  · rw [pauseSession, sequencerPause_other (by exact idle), sequencerPause_rejectedGeometry]
    exact ⟨record, rfl⟩
  · exact ⟨record, rfl⟩

/-- After a failed frame's retirement no descriptor is READING, where none but its own was. -/
theorem reading_retire_geometry {s : State} {i : Fin 6}
    (only : ∀ j : Fin 6, s.ring.desc[j].state = .reading → j = i) :
    (retire i (.rejected .geometry) false s).reading = none := by
  rw [State.reading_none_iff]
  intro j
  have record : (retireRecord i (.rejected .geometry) false s).ring.desc[j].state ≠ .reading := by
    by_cases own : j = i
    · rw [own, (retireRecord_desc ..).1]
      nofun
    · rw [(retireRecord_desc ..).2 j own]
      exact fun h => own (only j h)
  rw [retire, drainCheck_ring, counterPause_geometry]
  split_ifs
  · rw [pauseSession]
    exact sequencerPause_reading (by exact record)
  · exact record

/-! ## Frame starts (R53, R54, R57) -/

theorem judgeFrame_of_reading {s : State} {i : Fin 6} (reading : s.reading = some i) (powered : s.powered = true) :
    judgeFrame s = { s with port := { s.port with reception := .receiving s.ring.desc[i].sub } } := by
  simp only [judgeFrame, reading, powered, if_true]
  rfl

theorem judgeFrame_discards {s : State} (h : s.reading = none ∨ s.powered = false) : judgeFrame s = discardFrame s := by
  unfold judgeFrame
  split
  · rfl
  · rename_i i reading
    rcases h with none | off
    · exact absurd (none.symm.trans reading) nofun
    · exact if_neg (by simp [off])

theorem discardFrame_eq (s : State) : discardFrame s = { s with port := { s.port with
    reception := .discarding, discarded := min 65535 (s.port.discarded + 1) } } := by
  rw [← saturate_eq_min]
  rfl

theorem failFrame_of_reading {s : State} {i : Fin 6} (reading : s.reading = some i) (r : FrameResult) :
    failFrame r s = retire i (.rejected .geometry) false { s with
      port := { s.port with lastResult := some r, readoutTimer := none } } := by
  simp only [failFrame, reading]
  rfl

/-- Settles O44. -/
theorem frameStartsAreJudged : Obligations.FrameStartsAreJudged := by
  intro s
  dsimp only
  refine ⟨fun notReceiving => ?_, fun n i receiving reading only idle => ?_⟩
  · have start : exec .frameStart s = .next (judgeFrame { s with port := { s.port with
        sync := .synced, lineCount := 0, pixelCount := 0, frameFailed := false } }) := by
      change execFrameStart s = _
      unfold execFrameStart frameStarts
      dsimp only
      split
      · next h => exact absurd h (notReceiving _)
      · rfl
    rw [start]
    refine ⟨fun i reading powered => congrArg _ (judgeFrame_of_reading (by exact reading) (by exact powered)),
      fun h => congrArg _ ?_⟩
    rw [judgeFrame_discards (by exact h), discardFrame_eq]
  · have start : exec .frameStart s = .next (judgeFrame (failFrame .failedTruncated { s with port := { s.port with
        sync := .synced, lineCount := 0, pixelCount := 0, frameFailed := false } })) := by
      change execFrameStart s = _
      simp only [execFrameStart, frameStarts, State.onPort, receiving]
    rw [start, failFrame_of_reading (by exact reading), judgeFrame_discards (.inl (reading_retire_geometry (by exact only))),
      discardFrame_eq, retire_port]
    obtain ⟨desc, total⟩ := retire_geometry (s := { s with port := { s.port with
      sync := .synced, lineCount := 0, pixelCount := 0, frameFailed := false
      lastResult := some .failedTruncated, readoutTimer := none } }) (i := i) idle
    exact ⟨rfl, _, rfl, rfl, rfl, rfl, rfl, congrArg (·.state) desc, congrArg (·.outcome) desc, total, by simp⟩

/-! ## Trailers and the readout timer (R53 to R57) -/

theorem exec_trailerLine_of_synced {s : State} (synced : s.port.sync = .synced) (fc : BitVec 16) (temp : BitVec 12) :
    exec (.trailerLine fc temp) s = .next (trailerArrives ⟨fc.toNat, temp.toInt⟩ s) := by
  change execTrailerLine fc temp s = _
  rw [execTrailerLine, if_pos (by rw [synced]; rfl)]

theorem exec_imageLine_of_synced {s : State} (synced : s.port.sync = .synced) (lanes : List (List Pixel)) :
    exec (.imageLine lanes) s = .next (lineArrives lanes s) := by
  change execImageLine lanes s = _
  rw [execImageLine, if_pos (by rw [synced]; rfl)]

theorem countLine_eq (p : SensorPort) (length : Nat) : p.countLine length = { p with
    lineCount := min 65535 (p.lineCount + 1), pixelCount := min 65535 length } := by
  rw [← saturate_eq_min, ← saturate_eq_min]
  rfl

/-- The trailer of a received frame, with its descriptor's temperature written, before the check (R56). -/
def trailerTaken (t : Trailer) (i : Fin 6) (s : State) : State :=
  { s with
    port := { s.port with lastTrailer := some t, reception := .idle }
    ring := { s.ring with desc := s.ring.desc.set i { s.ring.desc[i] with temperature := some t.temperature } } }

theorem reading_congr {s t : State} (h : ∀ j : Fin 6, t.ring.desc[j].state = s.ring.desc[j].state) :
    t.reading = s.reading := by
  simp only [State.reading, Ring.first, h]

theorem reading_trailerTaken {t : Trailer} {i : Fin 6} (s : State) : (trailerTaken t i s).reading = s.reading :=
  reading_congr fun j => by
    by_cases own : j = i
    · subst own
      exact congrArg (·.state) (State.onDesc_self s j fun d => { d with temperature := some t.temperature })
    · exact congrArg (·.state) (State.onDesc_other s (fun d => { d with temperature := some t.temperature }) (Ne.symm own))

theorem trailerArrives_received {s : State} {i : Fin 6} {n : Nat} (reading : s.reading = some i)
    (receiving : s.port.reception = .receiving n) (t : Trailer) : trailerArrives t s =
      if s.port.lineCount = s.port.height ∧ s.port.frameFailed = false then passFrame (trailerTaken t i s)
      else failFrame .failedShape (trailerTaken t i s) := by
  have still : (s.onPort fun p => { p with lastTrailer := some t, reception := .idle }).reading = some i := reading
  simp only [trailerArrives, receiving, trailerReceived, still]
  rfl

theorem passFrame_trailerTaken {s : State} {i : Fin 6} (reading : s.reading = some i) (t : Trailer) :
    passFrame (trailerTaken t i s) = { s with
      port := { s.port with
        lastTrailer := some t, reception := .idle, lastResult := some .passed, readoutTimer := none }
      session := { s.session with geometryCount := 0 }
      ring := { s.ring with desc := s.ring.desc.set i { s.ring.desc[i] with
        state := .waiting, temperature := some t.temperature } } } := by
  have still : (trailerTaken t i s).reading = some i := (reading_trailerTaken s).trans reading
  have own : (trailerTaken t i s).ring.desc[i] = { s.ring.desc[i] with temperature := some t.temperature } :=
    Vector.getElem_set_self _
  have desc : (trailerTaken t i s).ring.desc.set i { (trailerTaken t i s).ring.desc[i] with state := .waiting } =
      s.ring.desc.set i { s.ring.desc[i] with state := .waiting, temperature := some t.temperature } := by
    rw [own]
    exact Vector.set_set ..
  simp only [passFrame, still, State.onDesc, State.onRing, State.onSession, State.onPort, desc]
  rfl

theorem exec_readoutTimeout {s : State} {i : Fin 6} (reading : s.reading = some i)
    (due : s.port.readoutTimer = some s.seq.clock) : exec .readoutTimeout s = .next (readoutTimesOut s) := by
  change execReadoutTimeout s = _
  simp [execReadoutTimeout, State.readoutDue, reading, due, State.now]

/-- Settles O46. -/
theorem trailersAndTimeoutsEndAFrame : Obligations.TrailersAndTimeoutsEndAFrame := by
  refine ⟨fun s fc temp lanes => ⟨fun synced discarding => ?_, fun awaiting => ?_⟩, fun s i reading =>
    ⟨fun fc temp n synced receiving => ⟨fun lines fine => ?_, fun wrong => ?_⟩, fun due notReceiving => ?_,
      fun n due receiving => ?_⟩⟩
  · rw [exec_trailerLine_of_synced synced, exec_imageLine_of_synced synced]
    simp only [trailerArrives, lineArrives, discarding, countLine_eq, State.onPort]
    exact ⟨trivial, trivial⟩
  · have notSynced : (s.port.sync == .synced) = false := by simp [awaiting]
    refine ⟨?_, ?_⟩
    · change execTrailerLine fc temp s = _
      simp [execTrailerLine, notSynced]
    · change execImageLine lanes s = _
      simp [execImageLine, notSynced]
  · rw [exec_trailerLine_of_synced synced, trailerArrives_received reading receiving, if_pos ⟨lines, fine⟩,
      passFrame_trailerTaken reading]
  · have failed : ¬(s.port.lineCount = s.port.height ∧ s.port.frameFailed = false) := by
      rintro ⟨lines, fine⟩
      rcases wrong with h | h
      exacts [h lines, absurd (fine.symm.trans h) (by decide)]
    rw [exec_trailerLine_of_synced synced, trailerArrives_received reading receiving, if_neg failed,
      failFrame_of_reading ((reading_trailerTaken s).trans reading)]
    rfl
  · rw [exec_readoutTimeout reading due, readoutTimesOut, failFrame_of_reading (by exact reading)]
    cases reception : s.port.reception with
    | receiving n => exact absurd reception (notReceiving n)
    | idle => simp only [State.onPort, reception]
    | discarding => simp only [State.onPort, reception]
  · rw [exec_readoutTimeout reading due, readoutTimesOut, failFrame_of_reading (by exact reading)]
    simp only [State.onPort, receiving]

/-! ## Image lines (R53, R55, R108) -/

/-- The pixel that is the k-th of a line: that of lane k modulo the count, at place k / count (R53). -/
def linePixel (lanes : List (List Pixel)) (count k : Nat) : Option Pixel := (lanes.getD (k % count) [])[k / count]?

/-- As long as its lanes have pixels, a line takes them in turn. -/
theorem assembleFrom_eq {lanes : List (List Pixel)} {count : Nat} (fuel k : Nat)
    (present : ∀ j < fuel, (linePixel lanes count (k + j)).isSome = true) :
    (assembleFrom lanes count fuel k).length = fuel ∧
      ∀ j < fuel, (assembleFrom lanes count fuel k)[j]? = linePixel lanes count (k + j) := by
  induction fuel generalizing k with
  | zero => exact ⟨rfl, nofun⟩
  | succ fuel ih =>
    obtain ⟨x, hx⟩ := Option.isSome_iff_exists.mp (present 0 (by omega))
    obtain ⟨length, pixels⟩ := ih (k + 1) fun j hj => by
      have := present (j + 1) (by omega)
      rwa [← Nat.add_assoc, Nat.add_right_comm] at this
    have front : assembleFrom lanes count (fuel + 1) k = x :: assembleFrom lanes count fuel (k + 1) := by
      have here : (lanes.getD (k % count) [])[k / count]? = some x := hx
      simp only [assembleFrom, here]
    rw [front]
    refine ⟨congrArg (· + 1) length, fun j hj => ?_⟩
    cases j with
    | zero => exact hx.symm
    | succ j => rw [List.getElem?_cons_succ, pixels j (by omega), Nat.add_assoc, Nat.add_comm 1 j]

/-- Lanes of one length interleave without loss (R53). -/
theorem assembleLine_of_equal_lanes {lanes : List (List Pixel)} {m : Nat} (some : lanes ≠ [])
    (equal : ∀ lane ∈ lanes, lane.length = m) :
    (assembleLine lanes lanes.length).length = lanes.length * m ∧
      ∀ k, k < lanes.length * m → (assembleLine lanes lanes.length)[k]? =
        (lanes[k % lanes.length]?).bind fun lane => lane[k / lanes.length]? := by
  have positive : 0 < lanes.length := List.length_pos_iff.mpr some
  have total : (lanes.map List.length).sum = lanes.length * m := by
    rw [List.map_congr_left equal, List.map_const', List.sum_replicate, smul_eq_mul]
  have pixel (k : Nat) : linePixel lanes lanes.length k =
      (lanes[k % lanes.length]?).bind fun lane => lane[k / lanes.length]? := by
    have h : k % lanes.length < lanes.length := Nat.mod_lt k positive
    rw [linePixel, List.getD_eq_getElem _ _ h, List.getElem?_eq_getElem h]
    rfl
  have present (k : Nat) (h : k < lanes.length * m) : (linePixel lanes lanes.length k).isSome = true := by
    have lane : k % lanes.length < lanes.length := Nat.mod_lt k positive
    have place : k / lanes.length < m := Nat.div_lt_of_lt_mul h
    have long : (lanes[k % lanes.length]).length = m := equal _ (List.getElem_mem lane)
    rw [pixel, List.getElem?_eq_getElem lane]
    exact Option.isSome_iff_exists.mpr ⟨_, List.getElem?_eq_getElem (place.trans_eq long.symm)⟩
  rw [assembleLine, total]
  obtain ⟨length, pixels⟩ := assembleFrom_eq (count := lanes.length) (lanes.length * m) 0 fun j hj => by
    rw [Nat.zero_add]
    exact present j hj
  exact ⟨length, fun k hk => by rw [pixels k hk, Nat.zero_add, pixel]⟩

/-- What a staging buffer holds once a line is written: the line in its row, and everything else as it was (R55). -/
theorem regionRead_writeLine {p : SensorPort} {pixels : List Pixel} {m : Region Nat} (wf : regionWf 0 m = true)
    (narrow : p.width ≤ stagingColumns) {x y : Nat} (hx : x < stagingColumns) :
    regionRead 0 (writeLine p pixels m) (stagingIndex x y) =
      if y = p.lineCount ∧ y < p.height ∧ x < p.width ∧ x < pixels.length then ((pixels[x]?).getD 0).toNat
      else regionRead 0 m (stagingIndex x y) := by
  rw [writeLine]
  by_cases inFrame : p.lineCount < p.height
  case neg =>
    rw [if_neg inFrame, if_neg]
    rintro ⟨row, high, -⟩
    omega
  rw [if_pos inFrame, regionRead_regionWriteRun _ _ _ wf]
  have size : stagingColumns = 6144 := rfl
  simp only [stagingIndex, size] at *
  rcases Nat.lt_trichotomy y p.lineCount with below | row | above
  · rw [if_neg (by omega), if_neg (by omega)]
  · subst row
    rw [if_pos (by omega), Nat.add_zero, Nat.add_sub_cancel_left, List.getElem?_map, List.getElem?_take]
    by_cases inWidth : x < p.width
    · by_cases inLine : x < pixels.length
      · simp [inWidth, inLine, inFrame]
      · simp [inWidth, inLine]
    · simp [inWidth]
  · rw [if_pos (by omega), if_neg (by omega), List.getElem?_eq_none]
    · rfl
    · simp only [List.length_map, List.length_take]
      omega

theorem lineArrives_received {s : State} {i : Fin 6} {n : Nat} (receiving : s.port.reception = .receiving n)
    (reading : s.reading = some i) (active : s.power.memory = .active) (lanes : List (List Pixel)) :
    lineArrives lanes s = { s with
      port := { s.port with
        lineCount := min 65535 (s.port.lineCount + 1)
        pixelCount := min 65535 (assembleLine lanes s.port.lanes).length
        frameFailed := s.port.frameFailed || (assembleLine lanes s.port.lanes).length != s.port.width }
      dram := { s.dram with
        staging := s.dram.staging.set i (writeLine s.port (assembleLine lanes s.port.lanes) s.dram.staging[i]) } } := by
  have awake : s.memoryAwake = true := by simp [State.memoryAwake, active]
  simp only [lineArrives, receiving, whenServed_sensorPort _ awake, storeLine, reading, State.onPort, State.onDram, countLine_eq]

/-- Settles O45. -/
theorem anImageLineWritesItsRow : Obligations.AnImageLineWritesItsRow := by
  refine ⟨fun lanes s n i synced receiving reading wf narrow active => ?_, fun lanes m some equal =>
    assembleLine_of_equal_lanes some equal⟩
  have staged : regionWf 0 s.dram.staging[i] = true :=
    ((StepLaws.dramWf_iff s.dram).mp ((StepLaws.memoryWf_iff s).mp wf).1).1 i
  refine ⟨_, (exec_imageLine_of_synced synced lanes).trans (congrArg _ (lineArrives_received receiving reading active lanes)),
    rfl, rfl, fun j other => ?_, fun x y hx => ?_⟩
  · exact Vector.getElem_set_ne i.isLt _ fun same => other (Fin.ext same.symm)
  · have own : (s.dram.staging.set i (writeLine s.port (assembleLine lanes s.port.lanes) s.dram.staging[i]))[i] =
        writeLine s.port (assembleLine lanes s.port.lanes) s.dram.staging[i] := Vector.getElem_set_self _
    dsimp only
    rw [own, regionRead_writeLine staged narrow hx]

end Sys2Proof.Proofs.RetirementsAndFrames
end

section
/-! PROOFS. The engine's jobs: their taking, their tiles and their completions. -/

namespace Sys2Proof.Proofs.EngineJobs

open Sys2Proof.Machine Sys2Proof.Safety Sys2Proof.Proofs.SessionRequests Sys2Proof.Proofs.SequencerSteps
  Sys2Proof.Proofs.RetirementsAndFrames

-- The declarations are elaborated one after another, which keeps the check of the whole text within its memory.
set_option Elab.async false

/-! ## Retirements and the engine -/

theorem coverOpen_of_running {s : State} (h : s.running = true) :
    coverOpen s = { s with seq := { s.seq with shutterTimer := none, phase := .waitStart } } :=
  ((coverOpen_cases s).resolve_right fun stopped => absurd (h.symm.trans stopped.1) (by decide)).2

theorem coverOpen_of_stopped {s : State} (h : s.running = false) : coverOpen s = { s with seq := { s.seq with
    shutterTimer := none, phase := .idle, cadenceTimer := none, keptExpiry := false, wakeAlarm := none } } :=
  ((coverOpen_cases s).resolve_left fun running => absurd (h.symm.trans running.1) (by decide)).2

theorem enterWaitOpen_of_open {s : State} (h : s.lines.shutterClosed = false) : enterWaitOpen s = coverOpen s :=
  ((enterWaitOpen_cases s).resolve_left fun closed => absurd (h.symm.trans closed.1) (by decide)).2

section
variable (f : Engine → Engine) (s : State)

/-! What a retirement does before the end of a drain leaves the engine to itself. -/

/-- The state in which a pause has cut the exposure and retired its sub (R43). -/
def cutExposure (c : CurrentExposure) (s : State) : State :=
  retireRecord c.index (.rejected .paused) false { s with
    lines := { s.lines with trigger := false }, seq := { s.seq with wakeAlarm := none, current := none } }

theorem coverOpen_onEngine : coverOpen (s.onEngine f) = (coverOpen s).onEngine f := by
  cases running : s.running
  · rw [coverOpen_of_stopped running, coverOpen_of_stopped (s := s.onEngine f) running]
    rfl
  · rw [coverOpen_of_running running, coverOpen_of_running (s := s.onEngine f) running]
    rfl

theorem enterWaitOpen_onEngine : enterWaitOpen (s.onEngine f) = (enterWaitOpen s).onEngine f := by
  cases cover : s.lines.shutterClosed
  · rw [enterWaitOpen_of_open cover, enterWaitOpen_of_open (s := s.onEngine f) cover, coverOpen_onEngine]
  · rw [enterWaitOpen_closed cover, enterWaitOpen_closed (s := s.onEngine f) cover]
    rfl

theorem sequencerPause_onEngine : sequencerPause (s.onEngine f) = (sequencerPause s).onEngine f := by
  have phase : (s.onEngine f).seq.phase = s.seq.phase := rfl
  have current : (s.onEngine f).seq.current = s.seq.current := rfl
  unfold sequencerPause
  rw [phase, current]
  cases s.seq.phase with
  | waitShutter => exact enterWaitOpen_onEngine f (releaseShutter s)
  | exposing =>
    cases s.seq.current with
    | none => rfl
    | some c =>
      dsimp only
      cases c.kind with
      | dark => exact enterWaitOpen_onEngine f (releaseShutter (cutExposure c s))
      | light => rfl
  | waitStart => rfl
  | waitOpen => rfl
  | idle => rfl

theorem pauseSession_onEngine (c : PauseCause) : pauseSession c (s.onEngine f) = (pauseSession c s).onEngine f :=
  sequencerPause_onEngine f (enterPaused c s)

theorem counterPause_onEngine (o : SubOutcome) : counterPause o (s.onEngine f) = (counterPause o s).onEngine f := by
  have session : (s.onEngine f).session = s.session := rfl
  have running : (s.onEngine f).running = s.running := rfl
  rw [counterPause_eq, counterPause_eq, session, running]
  split_ifs
  · exact pauseSession_onEngine f s _
  · exact pauseSession_onEngine f s _
  · exact pauseSession_onEngine f (s.onSession fun x => { x with geometryCount := 0 }) _
  · rfl

theorem retireRecord_onEngine (i : Fin 6) (o : SubOutcome) (resolved : Bool) :
    retireRecord i o resolved (s.onEngine f) = (retireRecord i o resolved s).onEngine f := rfl

end

theorem wake_freeEngine (c : WakeCause) (s : State) : freeEngine (wake c s) = wake c (freeEngine s) := by
  have power : (wake c s).power = (wake c (freeEngine s)).power := wake_power_congr c rfl
  calc freeEngine (wake c s) = freeEngine { s with power := (wake c s).power } := congrArg freeEngine (wake_eq_power c s)
    _ = { freeEngine s with power := (wake c (freeEngine s)).power } := by rw [power]; rfl
    _ = wake c (freeEngine s) := (wake_eq_power c (freeEngine s)).symm

/-- A retirement and the end of a job commute: a drain's end sets a mark alone (R13). -/
theorem freeEngine_retire (i : Fin 6) (o : SubOutcome) (resolved : Bool) (s : State) :
    freeEngine (retire i o resolved s) = retire i o resolved (freeEngine s) := by
  have before : counterPause o (retireRecord i o resolved (freeEngine s)) =
      freeEngine (counterPause o (retireRecord i o resolved s)) := by
    rw [freeEngine, freeEngine, retireRecord_onEngine, counterPause_onEngine]
  rw [retire, retire, before]
  generalize counterPause o (retireRecord i o resolved s) = t
  have condition : (t.session.state == .draining && t.ring.drained) =
    ((freeEngine t).session.state == .draining && (freeEngine t).ring.drained) := rfl
  rw [drainCheck, drainCheck, ← condition, apply_ite freeEngine]
  split_ifs
  · exact wake_freeEngine _ _
  · rfl

/-- A retirement does not ask for the state its descriptor had (R64). -/
theorem retire_onDesc_state (i : Fin 6) (o : SubOutcome) (resolved : Bool) (st : DescState) (s : State) :
    retire i o resolved (s.onDesc i fun d => { d with state := st }) = retire i o resolved s := by
  have record : retireRecord i o resolved (s.onDesc i fun d => { d with state := st }) = retireRecord i o resolved s := by
    have own : (s.ring.desc.set i { s.ring.desc[i] with state := st })[i] = { s.ring.desc[i] with state := st } :=
      Vector.getElem_set_self _
    rw [retireRecord_eq, retireRecord_eq]
    simp only [State.onDesc, State.onRing, own, Vector.set_set]
  rw [retire, retire, record]

/-! ## The choice of slots and calibrations (R93, R100) -/

theorem first_of_unique {l : DarkLibrary} {test : DarkSlot → Bool} {k : Fin 4} (holds : test l.slots[k] = true)
    (unique : ∀ j : Fin 4, test l.slots[j] = true → j = k) : l.first test = some k := by
  cases found : l.first test with
  | none => exact absurd holds (List.find?_eq_none.mp found k (List.mem_finRange k))
  | some j => rw [unique j (List.find?_some (p := fun i : Fin 4 => test l.slots[i]) found)]

theorem first_of_none {l : DarkLibrary} {test : DarkSlot → Bool} (h : ∀ j : Fin 4, test l.slots[j] = false) :
    l.first test = none :=
  List.find?_eq_none.mpr fun j _ => Bool.eq_false_iff.mp (h j)

theorem first_of_least {l : DarkLibrary} {test : DarkSlot → Bool} {k : Fin 4} (holds : test l.slots[k] = true)
    (least : ∀ j : Fin 4, j < k → test l.slots[j] = false) : l.first test = some k := by
  refine List.find?_eq_some_iff_getElem.mpr ⟨holds, k, by simp, by simp, fun j hj => ?_⟩
  have := least ⟨j, by omega⟩ hj
  simpa using this

theorem bandTest_iff (x : DarkSlot) (band : Nat) :
    (x.state != .empty && x.band == band) = true ↔ x.state ≠ .empty ∧ x.band = band := by
  simp only [Bool.and_eq_true, bne_iff_ne, beq_iff_eq]

theorem readyTest_iff (x : DarkSlot) (band : Nat) :
    (x.state == .ready && x.band == band) = true ↔ x.state = .ready ∧ x.band = band := by
  simp only [Bool.and_eq_true, beq_iff_eq]

theorem choose_of_sameBand {l : DarkLibrary} {band : Nat} {k : Fin 4} (holds : l.slots[k].state ≠ .empty ∧ l.slots[k].band = band)
    (unique : ∀ j : Fin 4, l.slots[j].state ≠ .empty ∧ l.slots[j].band = band → j = k) : l.choose band = .sameBand k := by
  have found : l.slotOfBand band = some k :=
    first_of_unique ((bandTest_iff _ _).mpr holds) fun j hj => unique j ((bandTest_iff _ _).mp hj)
  simp only [DarkLibrary.choose, found]

theorem slotOfBand_of_none {l : DarkLibrary} {band : Nat}
    (h : ∀ j : Fin 4, ¬(l.slots[j].state ≠ .empty ∧ l.slots[j].band = band)) : l.slotOfBand band = none :=
  first_of_none fun j => Bool.eq_false_iff.mpr (mt (bandTest_iff _ _).mp (h j))

theorem choose_of_empty {l : DarkLibrary} {band : Nat} {k : Fin 4} (noBand : l.slotOfBand band = none)
    (empty : l.slots[k].state = .empty) (least : ∀ j : Fin 4, j < k → l.slots[j].state ≠ .empty) :
    l.choose band = .taken k := by
  have found : l.first (fun x => x.state == .empty) = some k :=
    first_of_least (beq_iff_eq.mpr empty) fun j hj => beq_eq_false_iff_ne.mpr (least j hj)
  simp only [DarkLibrary.choose, noBand, found]

theorem noneEmpty_first {l : DarkLibrary} (h : ∀ j : Fin 4, l.slots[j].state ≠ .empty) :
    l.first (fun x => x.state == .empty) = none :=
  first_of_none fun j => beq_eq_false_iff_ne.mpr (h j)

theorem choose_of_replaceable {l : DarkLibrary} {band : Nat} {k : Fin 4} {before after : List (Fin 4)}
    (noBand : l.slotOfBand band = none) (full : ∀ j : Fin 4, l.slots[j].state ≠ .empty)
    (order : l.useOrder = before ++ k :: after) (ready : l.slots[k].state = .ready)
    (first : ∀ j ∈ before, l.slots[j].state ≠ .ready) : l.choose band = .taken k := by
  have found : l.replaceable = some k :=
    List.find?_eq_some_iff_append.mpr ⟨beq_iff_eq.mpr ready, before, after, order, fun j hj => by simpa using first j hj⟩
  simp only [DarkLibrary.choose, noBand, noneEmpty_first full, found]

theorem choose_of_noSlot {l : DarkLibrary} {band : Nat} (noBand : l.slotOfBand band = none)
    (full : ∀ j : Fin 4, l.slots[j].state ≠ .empty) (none : ∀ j ∈ l.useOrder, l.slots[j].state ≠ .ready) :
    l.choose band = .none := by
  have found : l.replaceable = .none := List.find?_eq_none.mpr fun j hj => by simpa using none j hj
  simp only [DarkLibrary.choose, noBand, noneEmpty_first full, found]

/-! ## The taking of a job (R75, R110, R112) -/

theorem exec_engineTakesJob {s : State} (powered : s.powered = true) (noJob : s.engine.job = .none)
    (noStop : s.engine.stop = .none) : exec .engineTakesJob s = .next (takeJob s) := by
  change execEngineTakesJob s = _
  simp [execEngineTakesJob, State.engineFree, powered, noJob, noStop]

theorem previewRead_iff (s : State) :
    s.previewRead = true ↔ ∃ r b, s.pLink.response = some ⟨r, some b⟩ ∧ b.stream = .preview := by
  unfold State.previewRead LinkState.bulkRead
  rcases s.pLink.response with _ | ⟨r, _ | b⟩ <;> simp

/-- With no clear, finish or preview to take, the engine looks for a WAITING descriptor (R110). -/
theorem takeJob_of_waiting {s : State} {i : Fin 6} (noClear : s.engine.clearPending = false)
    (noFinish : s.engine.finishPending = false) (noPreview : s.engine.previewPending = false ∨ s.previewRead = true)
    (waiting : s.ring.nextWaiting = some i) : takeJob s = takeDescriptor i s := by
  have held : (s.engine.previewPending && !s.previewRead) = false := by
    rcases noPreview with h | h <;> simp [h]
  simp only [takeJob, noClear, noFinish, held, waiting, Bool.false_eq_true, if_false]

theorem takeJob_of_nothing {s : State} (noClear : s.engine.clearPending = false)
    (noFinish : s.engine.finishPending = false) (noPreview : s.engine.previewPending = false ∨ s.previewRead = true)
    (none : s.ring.nextWaiting = none) : takeJob s = s := by
  have held : (s.engine.previewPending && !s.previewRead) = false := by
    rcases noPreview with h | h <;> simp [h]
  simp only [takeJob, noClear, noFinish, held, none, Bool.false_eq_true, if_false]

theorem nextWaiting_of_none {r : Ring} (h : ∀ j : Fin 6, r.desc[j].state ≠ .waiting) : r.nextWaiting = none := by
  rw [Ring.nextWaiting, StepsAndValues.leastIndex_none_iff]
  exact fun j => if_neg (mt beq_iff_eq.mp (h j))

theorem takeDescriptor_light {i : Fin 6} {s : State} (light : s.ring.desc[i].kind = .light) :
    takeDescriptor i s = takeLight i s := by
  simp only [takeDescriptor, light]

theorem takeDescriptor_dark {i : Fin 6} {s : State} (dark : s.ring.desc[i].kind = .dark) :
    takeDescriptor i s = takeDark i (setJob (.descriptor i) .none s) := by
  simp only [takeDescriptor, dark]

/-- The state of a dark that has been taken and has no slot yet (R63, R112). -/
def darkTaken (i : Fin 6) (s : State) : State :=
  (setJob (.descriptor i) .none s).onDesc i fun d => { d with state := .merging }

theorem takeDark_sameBand {i : Fin 6} {k : Fin 4} {s : State}
    (choice : s.darks.choose s.ring.desc[i].band = .sameBand k) : takeDark i (setJob (.descriptor i) .none s) =
      if 64 ≤ s.darks.slots[k].count then
        endJob (retire i (.darkDiscarded .slotFull) false (touchSlot k s.ring.desc[i].sub (darkTaken i s)))
      else beginDarkMerge k (darkTaken i s) := by
  have found : (darkTaken i s).darks.choose (setJob (.descriptor i) .none s).ring.desc[i].band = .sameBand k := choice
  unfold takeDark
  dsimp only
  rw [← darkTaken, found]
  rfl

theorem takeDark_taken {i : Fin 6} {k : Fin 4} {s : State}
    (choice : s.darks.choose s.ring.desc[i].band = .taken k) : takeDark i (setJob (.descriptor i) .none s) =
      beginDarkMerge k (takeSlot k s.ring.desc[i].band (darkTaken i s)) := by
  have found : (darkTaken i s).darks.choose (setJob (.descriptor i) .none s).ring.desc[i].band = .taken k := choice
  unfold takeDark
  dsimp only
  rw [← darkTaken, found]
  rfl

theorem takeDark_none {i : Fin 6} {s : State} (choice : s.darks.choose s.ring.desc[i].band = .none) :
    takeDark i (setJob (.descriptor i) .none s) =
      endJob (retire i (.darkDiscarded .noSlot) false (darkTaken i s)) := by
  have found : (darkTaken i s).darks.choose (setJob (.descriptor i) .none s).ring.desc[i].band = .none := choice
  unfold takeDark
  dsimp only
  rw [← darkTaken, found]

/-- A dark discarded at its taking leaves the engine free, as if it had not been taken (R94). -/
theorem endJob_retire_darkTaken (i : Fin 6) (o : SubOutcome) (s : State) :
    endJob (retire i o false (darkTaken i s)) = jobEnded (retire i o false s) := by
  have free : freeEngine (darkTaken i s) = (freeEngine s).onDesc i fun d => { d with state := .merging } := rfl
  have ended : jobEnded (retire i o false s) = freeEngine (retire i o false s) := rfl
  rw [ended, endJob, freeEngine_retire, free, retire_onDesc_state, ← freeEngine_retire]

/-- The calibration by the READY slots of the band and of its neighbours (R100). -/
theorem readySlot_of_unique {l : DarkLibrary} {n : Nat} {k : Fin 4} (ready : l.slots[k].state = .ready ∧ l.slots[k].band = n)
    (unique : ∀ j k : Fin 4, (l.slots[j].state = .ready ∧ l.slots[j].band = n) →
      (l.slots[k].state = .ready ∧ l.slots[k].band = n) → j = k) : l.readySlot n = some k :=
  first_of_unique ((readyTest_iff _ _).mpr ready) fun j hj => unique j k ((readyTest_iff _ _).mp hj) ready

theorem readySlot_of_none {l : DarkLibrary} {n : Nat}
    (h : ∀ j : Fin 4, ¬(l.slots[j].state = .ready ∧ l.slots[j].band = n)) : l.readySlot n = none :=
  first_of_none fun j => Bool.eq_false_iff.mpr (mt (readyTest_iff _ _).mp (h j))

theorem readyBelow_of_pos {l : DarkLibrary} {b : Nat} (h : 0 < b) : l.readyBelow b = l.readySlot (b - 1) :=
  if_neg (by omega)

theorem readyBelow_of_none {l : DarkLibrary} {b : Nat}
    (h : ∀ i : Fin 4, ¬(0 < b ∧ l.slots[i].state = .ready ∧ l.slots[i].band = b - 1)) : l.readyBelow b = none := by
  unfold DarkLibrary.readyBelow
  split_ifs with zero
  · rfl
  · exact readySlot_of_none fun j ready => h j ⟨by omega, ready⟩

/-- A light is calibrated on the referencing path, and on the aligned path when its quality is STEADY (R75). -/
theorem calibrated_iff (aligned : Bool) (q : Quality) :
    (!aligned || q == .steady) = true ↔ aligned = false ∨ q = .steady := by
  cases aligned <;> simp

/-- Settles O49. -/
theorem theEngineTakesJobsInOrder : Obligations.TheEngineTakesJobsInOrder := by
  refine ⟨fun s powered noJob noStop => ?_, fun l b => ?_⟩
  · dsimp only
    rw [exec_engineTakesJob powered noJob noStop]
    have readBy (h : s.engine.previewPending = false ∨ ∃ r b, s.pLink.response = some ⟨r, some b⟩ ∧ b.stream = .preview) :
        s.engine.previewPending = false ∨ s.previewRead = true := h.imp_right (previewRead_iff s).mpr
    refine ⟨fun clear => congrArg _ (if_pos clear), fun noClear finish => ?_, fun noClear noFinish preview unread => ?_,
      fun noClear noFinish noPreview none => ?_, fun i noClear noFinish noPreview waiting =>
        ⟨fun light => ⟨fun calibrated => ?_, fun aligned moving => ?_⟩, fun dark => ⟨fun k holds unique =>
          ⟨fun room => ?_, fun full => ?_⟩, fun noBand => ⟨fun k empty least => ?_, fun full =>
            ⟨fun before after k order ready first => ?_, fun none => ?_⟩⟩⟩⟩⟩
    · rw [takeJob, if_neg (Bool.eq_false_iff.mp noClear), if_pos finish]
      rfl
    · have notRead : s.previewRead = false := by
        rw [← Bool.not_eq_true, previewRead_iff]
        rintro ⟨r, b, response, stream⟩
        exact unread r b response stream
      rw [takeJob, if_neg (Bool.eq_false_iff.mp noClear), if_neg (Bool.eq_false_iff.mp noFinish),
        if_pos (by simp [preview, notRead])]
      rfl
    · rw [takeJob_of_nothing noClear noFinish (readBy noPreview) (nextWaiting_of_none none)]
    all_goals rw [takeJob_of_waiting noClear noFinish (readBy noPreview) waiting]
    · rw [takeDescriptor_light light]
      exact congrArg _ (if_pos ((calibrated_iff _ _).mpr calibrated))
    · rw [takeDescriptor_light light]
      refine (congrArg _ (if_neg (mt (calibrated_iff _ _).mp ?_))).trans ?_
      · rintro (unaligned | steady)
        exacts [absurd (aligned.symm.trans unaligned) (by decide), moving steady]
      rw [aligned]
      rfl
    all_goals rw [takeDescriptor_dark dark]
    · rw [takeDark_sameBand (choose_of_sameBand holds unique), if_neg (by omega)]
      rfl
    · rw [takeDark_sameBand (choose_of_sameBand holds unique), if_pos full]
      exact congrArg _ (endJob_retire_darkTaken i _ (touchSlot k s.ring.desc[i].sub s))
    · rw [takeDark_taken (choose_of_empty (slotOfBand_of_none noBand) empty least)]
      rfl
    · rw [takeDark_taken (choose_of_replaceable (slotOfBand_of_none noBand) full order ready first)]
      rfl
    · rw [takeDark_none (choose_of_noSlot (slotOfBand_of_none noBand) full none), endJob_retire_darkTaken]
  · dsimp only
    refine fun unique => ⟨fun k ready => ?_, fun noExact => ⟨fun i j below above => ?_, fun i below noAbove => ?_,
      fun j above noBelow => ?_, fun noBelow noAbove => ?_⟩⟩
    · simp only [DarkLibrary.calibrationFor, readySlot_of_unique ready (unique b)]
    all_goals simp only [DarkLibrary.calibrationFor, readySlot_of_none noExact]
    · rw [readyBelow_of_pos below.1, readySlot_of_unique below.2 (unique _), readySlot_of_unique above (unique _)]
    · rw [readyBelow_of_pos below.1, readySlot_of_unique below.2 (unique _), readySlot_of_none noAbove]
    · rw [readyBelow_of_none noBelow, readySlot_of_unique above (unique _)]
    · rw [readyBelow_of_none noBelow, readySlot_of_none noAbove]

/-! ## Completions (R4, R95, R113, R120, R128, R134) -/

/-- A job that has done its tiles, and that no close has asked to stop, completes (R113, R122). -/
theorem completeJob_of {s : State} (done : s.tileCount ≤ s.engine.tilesDone) (noClose : s.engine.stop ≠ .close)
    (complete : State → State) : completeJob complete s = complete s := by
  have tilesOver : s.tilesOver = true := decide_eq_true done
  simp [completeJob, tilesOver, noClose]

theorem applyPending_of_none {s : State} (h : s.session.pendingPlan = none) : applyPending s = s := by
  simp only [applyPending, h]

theorem applyPending_of_some {s : State} {k : Fin 4} (h : s.session.pendingPlan = some k) : applyPending s =
    raise .planSwitched { s with session := { s.session with activePlan := k, pendingPlan := none } } := by
  simp only [applyPending, h]
  rfl

theorem exec_lightMergeComplete {s : State} {i : Fin 6} {o : SubOutcome} {aligned : Bool} {sky : Option Transform}
    (done : s.tileCount ≤ s.engine.tilesDone) (noClose : s.engine.stop ≠ .close) (job : s.engine.job = .descriptor i)
    (work : s.engine.work = .merging o aligned sky) :
    exec .lightMergeComplete s = .next (mergeCompletes i o aligned s) := by
  change execLightMergeComplete s = _
  simp only [execLightMergeComplete, job, work, completeJob_of done noClose]

theorem exec_finishComplete {s : State} (done : s.tileCount ≤ s.engine.tilesDone) (noClose : s.engine.stop ≠ .close)
    (job : s.engine.job = .finish) : exec .finishComplete s = .next (finishCompletes s) := by
  change execFinishComplete s = _
  simp [execFinishComplete, job, completeJob_of done noClose]

theorem exec_darkMergeComplete {s : State} {i : Fin 6} (done : s.tileCount ≤ s.engine.tilesDone)
    (noClose : s.engine.stop ≠ .close) (job : s.engine.job = .descriptor i) (work : s.engine.work = .darkMerging) :
    exec .darkMergeComplete s = .next (completeDarkMerge i s) := by
  change execDarkMergeComplete s = _
  have tilesOver : s.tilesOver = true := decide_eq_true done
  simp [execDarkMergeComplete, job, work, tilesOver, noClose]

theorem completeSlot_darks (k : Fin 4) (d : Descriptor) (s : State) : (completeSlot k d s).darks = { s.darks with
    slots := s.darks.slots.set k { s.darks.slots[k] with
      count := s.darks.slots[k].count + 1, lastUsed := d.sub
      state := if d.snapshot.darkMinimum ≤ s.darks.slots[k].count + 1 then .ready else .building }
    useOrder := s.darks.useOrder.erase k ++ [k], mergeTarget := none } := by
  simp [completeSlot, touchSlot_eq, State.onSlot, State.onDarks]

/-- A merged dark's retirement is its record and the end of a drain: no counter counts it (R9 to R11, R13). -/
theorem retire_darkMerged (i : Fin 6) (s : State) :
    retire i .darkMerged false s = drainCheck .alarm (retireRecord i .darkMerged false s) := rfl

/-- Settles O53. -/
theorem jobsCompleteWithTheirEffects : Obligations.JobsCompleteWithTheirEffects := by
  refine ⟨fun s done noClose => ?_, fun s i k done noClose job work target => ?_⟩
  · refine ⟨fun job arming => ?_, fun i o aligned sky job work integrating merged => ?_, fun job finishing none => ?_,
      fun k job finishing pending => ?_, fun i o aligned sky job work => exec_lightMergeComplete done noClose job work,
      fun note job work => ?_⟩
    · change execPlaneClearComplete s = _
      rw [execPlaneClearComplete, if_pos (beq_iff_eq.mpr job), completeJob_of done noClose]
      exact congrArg _ (if_pos (beq_iff_eq.mpr arming))
    · subst merged
      rw [exec_lightMergeComplete done noClose job work, mergeCompletes]
      have record : retire i .merged aligned (clearInUse s) = retireRecord i .merged aligned (clearInUse s) :=
        drainCheck_of_not_draining _ (by exact fun h => absurd (integrating.symm.trans h) (by decide))
      rw [record]
      rfl
    · rw [exec_finishComplete done noClose job]
      refine congrArg _ ((if_pos (beq_iff_eq.mpr finishing)).trans ?_)
      rw [applyPending_of_none (by exact none)]
      rfl
    · rw [exec_finishComplete done noClose job]
      refine congrArg _ ((if_pos (beq_iff_eq.mpr finishing)).trans ?_)
      rw [applyPending_of_some (by exact pending)]
      rfl
    · change execPreviewComplete s = _
      simp only [execPreviewComplete, job, work, completeJob_of done noClose]
      rfl
  · have slot : completeDarkMerge i s = endJob (retire i .darkMerged false (completeSlot k s.ring.desc[i] s)) := by
      simp only [completeDarkMerge, target]
    refine ⟨_, (exec_darkMergeComplete done noClose job work).trans (congrArg _ slot), ?_⟩
    have own : (retire i .darkMerged false (completeSlot k s.ring.desc[i] s)).ring.desc[i] =
        { s.ring.desc[i] with state := .retired, outcome := some .darkMerged } := by
      rw [retire_darkMerged, drainCheck_ring]
      exact (retireRecord_desc ..).1
    refine ⟨?_, congrArg (·.state) own, congrArg (·.outcome) own, ?_, rfl, ?_⟩
    · refine (retire_darks _ _ _ _).trans ?_
      rw [completeSlot_darks]
    · refine (congrArg (·.darksMerged) (drainCheck_totals _ _)).trans ?_
      rfl
    · exact (retire_dram _ _ _ _).trans rfl

end Sys2Proof.Proofs.EngineJobs
end

section
/-! PROOFS. The tiles of a plane clear, of a light's merge and of a dark's merge, cell by cell; the arbiter's grants; the
transforms that a merge samples by. -/

namespace Sys2Proof.Proofs.TilesAndPlanes

open Sys2Proof.Machine Sys2Proof.Safety Sys2Proof.Proofs.FinishedImage

-- The declarations are elaborated one after another, which keeps the check of the whole text within its memory.
set_option Elab.async false

/-! ## The cells of a tile (R103) -/

theorem nodup_tileCells (w t : Nat) : (tileCells w t).Nodup := by
  refine List.nodup_flatMap.mpr ⟨fun dj _ => ?_, ?_⟩
  · exact List.nodup_range.map fun a b h => by simpa using h
  · refine List.nodup_range.imp fun {a b} apart => ?_
    simp only [Function.onFun, List.disjoint_left, List.mem_map, not_exists, not_and]
    rintro _ ⟨i, -, rfl⟩ j - same
    simp at same
    omega

/-- The cells of a tile have records of their own (R106). -/
theorem nodup_cellIndex {w : Nat} (hw : 64 ≤ w) (t : Nat) :
    ((tileCells w t).map fun c => cellIndex w c.1 c.2).Nodup := by
  refine (nodup_tileCells w t).map_on fun a ha b hb same => ?_
  have ia := tileCells_column_lt hw ha
  have ib := tileCells_column_lt hw hb
  have column (c : Nat × Nat) (h : 2 * c.1 + 1 < w) : cellIndex w c.1 c.2 % (w / 2) = c.1 ∧
      cellIndex w c.1 c.2 / (w / 2) = c.2 := by
    rw [cellIndex, Nat.add_comm, Nat.add_mul_mod_self_right, Nat.add_mul_div_right _ _ (by omega),
      Nat.mod_eq_of_lt (by omega), Nat.div_eq_of_lt (by omega), Nat.zero_add]
    exact ⟨rfl, rfl⟩
  exact Prod.ext ((column a ia).1.symm.trans ((congrArg (· % (w / 2)) same).trans (column b ib).1))
    ((column a ia).2.symm.trans ((congrArg (· / (w / 2)) same).trans (column b ib).2))

/-- What a walk over cells leaves in a plane, where each step judges the record of its own cell alone: the cells of the
walk are judged once each, and every other record stays. -/
theorem foldl_reads {σ α β : Type} {read : σ → Nat → α} {step : σ → β → σ} {index : β → Nat} {value : β → α → α}
    {P : σ → Prop} (keeps : ∀ s c, P s → P (step s c))
    (reads : ∀ s c k, P s → read (step s c) k = if k = index c then value c (read s k) else read s k)
    (cells : List β) {s : σ} (hs : P s) :
    (∀ k, (∀ c ∈ cells, index c ≠ k) → read (cells.foldl step s) k = read s k) ∧
    ((cells.map index).Nodup → ∀ c ∈ cells, read (cells.foldl step s) (index c) = value c (read s (index c))) := by
  induction cells generalizing s with
  | nil => exact ⟨fun _ _ => rfl, nofun⟩
  | cons a rest ih =>
    obtain ⟨others, own⟩ := ih (keeps s a hs)
    rw [List.foldl_cons]
    refine ⟨fun k apart => ?_, fun nodup c hc => ?_⟩
    · rw [others k fun c hc => apart c (List.mem_cons_of_mem a hc), reads s a k hs,
        if_neg (apart a List.mem_cons_self).symm]
    · rw [List.map_cons, List.nodup_cons] at nodup
      obtain ⟨first, later⟩ := nodup
      rcases List.mem_cons.mp hc with rfl | hc
      · rw [others (index c) fun d hd same => first (same ▸ List.mem_map_of_mem hd), reads s c _ hs, if_pos rfl]
      · have apart : index c ≠ index a := fun same => first (same ▸ List.mem_map_of_mem hc)
        rw [own later c hc, reads s a _ hs, if_neg apart]

/-! ## The plane clear and the arbiter (R108, R113) -/

theorem regionRead_clearTile {w t : Nat} (hw : 64 ≤ w) {m : Region CellRecord} (wf : regionWf CellRecord.zero m = true)
    (k : Nat) :
    ((∃ c ∈ tileCells w t, cellIndex w c.1 c.2 = k) → regionRead CellRecord.zero (clearTile w t m) k = CellRecord.zero) ∧
    ((¬∃ c ∈ tileCells w t, cellIndex w c.1 c.2 = k) →
      regionRead CellRecord.zero (clearTile w t m) k = regionRead CellRecord.zero m k) := by
  obtain ⟨others, own⟩ := foldl_reads (read := regionRead CellRecord.zero)
    (step := fun (m : Region CellRecord) (c : Nat × Nat) => regionWrite CellRecord.zero m (cellIndex w c.1 c.2) CellRecord.zero)
    (index := fun c : Nat × Nat => cellIndex w c.1 c.2) (value := fun _ _ => CellRecord.zero)
    (P := fun m => regionWf CellRecord.zero m = true) (fun m c h => regionWrite_wf _ _ h)
    (fun m c k h => regionRead_regionWrite _ k _ h) (tileCells w t) wf
  refine ⟨fun ⟨c, hc, same⟩ => ?_, fun apart => others k fun c hc same => apart ⟨c, hc, same⟩⟩
  rw [← same]
  exact own (nodup_cellIndex hw t) c hc

theorem width_of_tile {s : State} (h : s.engine.tilesDone < s.tileCount) : 64 ≤ s.port.width := by
  by_contra narrow
  have none : s.tileCount = 0 := by
    have columns : s.port.width / 64 = 0 := Nat.div_eq_of_lt (by omega)
    simp [State.tileCount, SensorPort.tileCount, columns]
  omega

theorem exec_engineTileComplete_clear {s : State} (powered : s.powered = true) (job : s.engine.job = .planeClear)
    (work : s.engine.work = .none) (noStop : s.engine.stop = .none) (tile : s.engine.tilesDone < s.tileCount) :
    exec .engineTileComplete s = .next { s with
      engine := { s.engine with tilesDone := s.engine.tilesDone + 1, lastGranted := .engine }
      dram := { s.dram with
        sky := clearTile s.port.width s.engine.tilesDone s.dram.sky
        ground := clearTile s.port.width s.engine.tilesDone s.dram.ground } } := by
  have worked : tileWork (granted s) = clearOneTile s.engine.tilesDone (granted s) := by
    simp [tileWork, granted, State.onEngine, job]
  have step := exec_engineTileComplete_of_powered powered noStop tile (by simp [job])
  rwa [completeTile_of_noStop (by rw [worked]; exact noStop), worked,
    countTile_of_not_measuring (by simp [State.measuring, clearOneTile, granted, work])] at step

/-- With no memory granted a tile does not complete, unless a close ends its job (R108). -/
theorem exec_engineTileComplete_asleep {s : State} (asleep : s.memoryAwake = false) (noClose : s.engine.stop ≠ .close) :
    exec .engineTileComplete s = .next s := by
  change execEngineTileComplete s = _
  simp [execEngineTileComplete, noClose, whenServed_asleep _ _ asleep]

/-- With no memory granted an image line is counted alone (R108). -/
theorem exec_imageLine_asleep {s : State} (asleep : s.memoryAwake = false) (lanes : List (List Pixel)) :
    ∃ t, exec (.imageLine lanes) s = .next t ∧ t = { s with port := t.port } := by
  refine ⟨if s.port.sync == .synced then lineArrives lanes s else s, rfl, ?_⟩
  split_ifs
  · unfold lineArrives
    split
    · rfl
    · rfl
    · dsimp only
      rw [whenServed_asleep _ _ asleep]
      rfl
  · rfl

/-- Settles O50. -/
theorem aClearedTileHoldsZeros : Obligations.AClearedTileHoldsZeros := by
  refine ⟨fun s powered job work noStop tile wf => ?_, fun sensorPort engine link last u => ⟨rfl, ?_⟩,
    fun s unpowered inactive noClose => ?_⟩
  · obtain ⟨-, -, sky, ground, -⟩ := (StepLaws.dramWf_iff s.dram).mp ((StepLaws.memoryWf_iff s).mp wf).1
    have hw := width_of_tile tile
    refine ⟨_, exec_engineTileComplete_clear powered job work noStop tile, by dsimp only, fun k => ?_⟩
    obtain ⟨skyCleared, skyKept⟩ := regionRead_clearTile (t := s.engine.tilesDone) hw sky k
    obtain ⟨groundCleared, groundKept⟩ := regionRead_clearTile (t := s.engine.tilesDone) hw ground k
    dsimp only
    exact ⟨fun cleared => ⟨skyCleared cleared, groundCleared cleared⟩, fun apart => ⟨skyKept apart, groundKept apart⟩⟩
  · rcases arbiterGrant_awake sensorPort engine link last with ⟨port, grant⟩ | ⟨port, waits, alone, grant⟩ |
      ⟨port, waits, alone, grant⟩ | ⟨port, noEngine, noLink, grant⟩ <;> rw [grant]
    · cases u <;> simp [port]
    · cases u <;> simp [port, waits]
      exacts [alone, fun both => by simp [alone both]]
    · cases u <;> simp [port, waits]
      exacts [fun both => by simp [alone both], alone]
    · cases u <;> simp [port, noEngine, noLink]
  · have asleep : s.memoryAwake = false := by simp [State.memoryAwake, unpowered, inactive]
    refine ⟨exec_engineTileComplete_asleep asleep noClose, ?_, fun lanes => ?_⟩
    · change execBulkReadComplete s = _
      unfold execBulkReadComplete
      split
      · rw [if_neg (Bool.eq_false_iff.mp unpowered)]
      · rfl
    · exact exec_imageLine_asleep asleep lanes

/-! ## The account of a merge (R114 to R119, R182) -/

/-- The contributions that a merge has judged so far. -/
def tally (acc : MergeAcc) : Nat := acc.mergedSky + acc.mergedGround + acc.rejected

theorem tally_addGround (plan : Plan) (k : Nat) (x : Quad) (acc : MergeAcc) :
    tally (acc.addGround plan k x) = tally acc + 1 := by
  unfold MergeAcc.addGround tally
  dsimp only
  split_ifs <;> dsimp only <;> omega

theorem tally_addSky (plan : Plan) (k : Nat) (x : Quad) (acc : MergeAcc) :
    tally (acc.addSky plan k x) = tally acc + 1 := by
  unfold MergeAcc.addSky tally
  dsimp only
  split_ifs <;> dsimp only <;> omega

/-- The ground half of a cell's merge (R116). -/
def mergeGround (l : Light) (plan : Plan) (acc : MergeAcc) (c : Nat × Nat) : MergeAcc :=
  (l.groundContribution c.1 c.2).elim acc fun x => acc.addGround plan (cellIndex l.width c.1 c.2) x

/-- The sky half of a cell's merge (R117). -/
def mergeSky (l : Light) (plan : Plan) (sky : Option Transform) (acc : MergeAcc) (c : Nat × Nat) : MergeAcc :=
  (sky.bind fun t => l.skyContribution t c.1 c.2).elim acc fun x => acc.addSky plan (cellIndex l.width c.1 c.2) x

theorem mergeCell_eq (l : Light) (plan : Plan) (sky : Option Transform) (acc : MergeAcc) (c : Nat × Nat) :
    l.mergeCell plan sky acc c = mergeSky l plan sky (mergeGround l plan acc c) c := by
  unfold Light.mergeCell mergeSky mergeGround
  cases l.groundContribution c.1 c.2 <;> cases sky.bind fun t => l.skyContribution t c.1 c.2 <;> rfl

theorem tally_mergeCell (l : Light) (plan : Plan) (sky : Option Transform) (acc : MergeAcc) (c : Nat × Nat) :
    tally (l.mergeCell plan sky acc c) = tally acc + (l.groundContribution c.1 c.2).isSome.toNat +
      (sky.bind fun t => l.skyContribution t c.1 c.2).isSome.toNat := by
  rw [mergeCell_eq, mergeSky, mergeGround]
  cases l.groundContribution c.1 c.2 <;> cases sky.bind fun t => l.skyContribution t c.1 c.2 <;>
    simp [tally_addGround, tally_addSky]

/-- A sum over a walk whose steps each add what they say. -/
theorem foldl_tally {σ β : Type} {count : σ → Nat} {step : σ → β → σ} {p q : β → Bool}
    (counts : ∀ s c, count (step s c) = count s + (p c).toNat + (q c).toNat) (cells : List β) (s : σ) :
    count (cells.foldl step s) = count s + (cells.filter p).length + (cells.filter q).length := by
  induction cells generalizing s with
  | nil => rfl
  | cons a rest ih =>
    rw [List.foldl_cons, ih, counts, List.filter_cons, List.filter_cons]
    cases p a <;> cases q a <;> simp <;> omega

/-- A light that is not sky-eligible leaves the sky plane and its count (R115). -/
theorem mergeTile_noSky (l : Light) (plan : Plan) (t : Nat) (acc : MergeAcc) :
    (l.mergeTile plan none t acc).sky = acc.sky ∧ (l.mergeTile plan none t acc).mergedSky = acc.mergedSky := by
  have step (a : MergeAcc) (c : Nat × Nat) (h : a.sky = acc.sky ∧ a.mergedSky = acc.mergedSky) :
      (l.mergeCell plan none a c).sky = acc.sky ∧ (l.mergeCell plan none a c).mergedSky = acc.mergedSky := by
    rw [mergeCell_eq, mergeSky, mergeGround]
    cases l.groundContribution c.1 c.2 with
    | none => exact h
    | some x => rcases MergeAcc.addGround_cases plan (cellIndex l.width c.1 c.2) x a with e | e <;>
        simp only [Option.elim, Option.bind, e] <;> exact h
  exact foldl_keeps (fun a : MergeAcc => a.sky = acc.sky ∧ a.mergedSky = acc.mergedSky) _ step _ _ ⟨rfl, rfl⟩

/-! ## The records that a merge writes (R114, R118, R119) -/

/-- A record after a contribution, if there is one, has been judged (R118, R119). -/
def judgedRecord (plan : Plan) (old : CellRecord) : Option Quad → CellRecord
  | none => old
  | some v => if rejects plan old v = true then old else old.accept v

theorem judgedRecord_some (plan : Plan) (old : CellRecord) (v : Quad) :
    judgedRecord plan old (some v) = if rejects plan old v = true then old else old.accept v := rfl

theorem mergeSky_ground (l : Light) (plan : Plan) (sky : Option Transform) (acc : MergeAcc) (c : Nat × Nat) :
    (mergeSky l plan sky acc c).ground = acc.ground := by
  rw [mergeSky]
  cases sky.bind fun t => l.skyContribution t c.1 c.2 with
  | none => rfl
  | some x => rcases MergeAcc.addSky_cases plan (cellIndex l.width c.1 c.2) x acc with e | e <;> simp only [Option.elim, e]

theorem mergeGround_sky (l : Light) (plan : Plan) (acc : MergeAcc) (c : Nat × Nat) :
    (mergeGround l plan acc c).sky = acc.sky := by
  rw [mergeGround]
  cases l.groundContribution c.1 c.2 with
  | none => rfl
  | some x =>
    rcases MergeAcc.addGround_cases plan (cellIndex l.width c.1 c.2) x acc with e | e <;> simp only [Option.elim, e]

/-- A plane after a judged contribution, place by place. -/
theorem regionRead_judged {m : Region CellRecord} (wf : regionWf CellRecord.zero m = true) (plan : Plan) (index k : Nat)
    (x : Quad) :
    regionRead CellRecord.zero (if rejects plan (regionRead CellRecord.zero m index) x = true then m
        else regionWrite CellRecord.zero m index ((regionRead CellRecord.zero m index).accept x)) k =
      if k = index then judgedRecord plan (regionRead CellRecord.zero m k) (some x) else regionRead CellRecord.zero m k := by
  by_cases here : k = index
  · subst here
    rw [if_pos rfl, judgedRecord_some]
    split_ifs
    · rfl
    · rw [regionRead_regionWrite _ _ _ wf, if_pos rfl]
  · rw [if_neg here]
    split_ifs
    · rfl
    · rw [regionRead_regionWrite _ _ _ wf, if_neg here]

theorem addGround_ground (plan : Plan) (index : Nat) (x : Quad) (acc : MergeAcc) :
    (acc.addGround plan index x).ground = if rejects plan (regionRead CellRecord.zero acc.ground index) x = true
      then acc.ground
      else regionWrite CellRecord.zero acc.ground index ((regionRead CellRecord.zero acc.ground index).accept x) := by
  unfold MergeAcc.addGround
  dsimp only
  split_ifs <;> rfl

theorem addSky_sky (plan : Plan) (index : Nat) (x : Quad) (acc : MergeAcc) :
    (acc.addSky plan index x).sky = if rejects plan (regionRead CellRecord.zero acc.sky index) x = true
      then acc.sky
      else regionWrite CellRecord.zero acc.sky index ((regionRead CellRecord.zero acc.sky index).accept x) := by
  unfold MergeAcc.addSky
  dsimp only
  split_ifs <;> rfl

theorem regionRead_mergeCell_ground (l : Light) (plan : Plan) (sky : Option Transform) {acc : MergeAcc}
    (c : Nat × Nat) (k : Nat) (wf : acc.Wf) : regionRead CellRecord.zero (l.mergeCell plan sky acc c).ground k =
      if k = cellIndex l.width c.1 c.2 then
        judgedRecord plan (regionRead CellRecord.zero acc.ground k) (l.groundContribution c.1 c.2)
      else regionRead CellRecord.zero acc.ground k := by
  rw [mergeCell_eq, mergeSky_ground, mergeGround]
  cases l.groundContribution c.1 c.2 with
  | none => exact (ite_self _).symm
  | some x =>
    rw [Option.elim, addGround_ground]
    exact regionRead_judged wf.2 plan _ k x

theorem regionRead_mergeCell_sky (l : Light) (plan : Plan) (sky : Option Transform) {acc : MergeAcc}
    (c : Nat × Nat) (k : Nat) (wf : acc.Wf) : regionRead CellRecord.zero (l.mergeCell plan sky acc c).sky k =
      if k = cellIndex l.width c.1 c.2 then
        judgedRecord plan (regionRead CellRecord.zero acc.sky k) (sky.bind fun t => l.skyContribution t c.1 c.2)
      else regionRead CellRecord.zero acc.sky k := by
  rw [mergeCell_eq, mergeSky, ← mergeGround_sky l plan acc c]
  cases sky.bind fun t => l.skyContribution t c.1 c.2 with
  | none => exact (ite_self _).symm
  | some x =>
    rw [Option.elim, addSky_sky]
    exact regionRead_judged (by rw [mergeGround_sky]; exact wf.1) plan _ k x

/-- A merged tile, record by record: those of its cells are judged, every other stays (R114, R118, R119). -/
theorem regionRead_mergeTile {l : Light} (plan : Plan) (sky : Option Transform) (t : Nat) {acc : MergeAcc}
    (hw : 64 ≤ l.width) (wf : acc.Wf) :
    (∀ c ∈ tileCells l.width t,
      regionRead CellRecord.zero (l.mergeTile plan sky t acc).ground (cellIndex l.width c.1 c.2) =
        judgedRecord plan (regionRead CellRecord.zero acc.ground (cellIndex l.width c.1 c.2))
          (l.groundContribution c.1 c.2) ∧
      regionRead CellRecord.zero (l.mergeTile plan sky t acc).sky (cellIndex l.width c.1 c.2) =
        judgedRecord plan (regionRead CellRecord.zero acc.sky (cellIndex l.width c.1 c.2))
          (sky.bind fun m => l.skyContribution m c.1 c.2)) ∧
    (∀ k, (∀ c ∈ tileCells l.width t, cellIndex l.width c.1 c.2 ≠ k) →
      regionRead CellRecord.zero (l.mergeTile plan sky t acc).ground k = regionRead CellRecord.zero acc.ground k ∧
      regionRead CellRecord.zero (l.mergeTile plan sky t acc).sky k = regionRead CellRecord.zero acc.sky k) := by
  have keeps (a : MergeAcc) (c : Nat × Nat) (h : a.Wf) : (l.mergeCell plan sky a c).Wf := mergeCell_wf l plan sky a c h
  obtain ⟨groundKept, groundJudged⟩ := foldl_reads (read := fun a : MergeAcc => regionRead CellRecord.zero a.ground)
    (index := fun c : Nat × Nat => cellIndex l.width c.1 c.2)
    (value := fun c old => judgedRecord plan old (l.groundContribution c.1 c.2)) keeps
    (fun a c k h => regionRead_mergeCell_ground l plan sky c k h) (tileCells l.width t) wf
  obtain ⟨skyKept, skyJudged⟩ := foldl_reads (read := fun a : MergeAcc => regionRead CellRecord.zero a.sky)
    (index := fun c : Nat × Nat => cellIndex l.width c.1 c.2)
    (value := fun c old => judgedRecord plan old (sky.bind fun m => l.skyContribution m c.1 c.2)) keeps
    (fun a c k h => regionRead_mergeCell_sky l plan sky c k h) (tileCells l.width t) wf
  have apart := nodup_cellIndex hw t
  exact ⟨fun c hc => ⟨groundJudged apart c hc, skyJudged apart c hc⟩, fun k h => ⟨groundKept k h, skyKept k h⟩⟩

/-- A dark's merged tile, place by place (R95). -/
theorem regionRead_darkMergeTile {w : Nat} (b : Bayer) (raw : Region Nat) (fresh : Bool) (t : Nat) {m : Region Quad}
    (hw : 64 ≤ w) (wf : regionWf Quad.zero m = true) :
    (∀ c ∈ tileCells w t, regionRead Quad.zero (darkMergeTile w b raw fresh t m) (cellIndex w c.1 c.2) =
      if fresh = true then rawQuad b raw c.1 c.2
      else (regionRead Quad.zero m (cellIndex w c.1 c.2)).zip (· + ·) (rawQuad b raw c.1 c.2)) ∧
    (∀ k, (∀ c ∈ tileCells w t, cellIndex w c.1 c.2 ≠ k) →
      regionRead Quad.zero (darkMergeTile w b raw fresh t m) k = regionRead Quad.zero m k) := by
  obtain ⟨kept, added⟩ := foldl_reads (read := regionRead Quad.zero)
    (step := fun (m : Region Quad) (c : Nat × Nat) =>
      let x := rawQuad b raw c.1 c.2
      let index := cellIndex w c.1 c.2
      regionWrite Quad.zero m index (if fresh then x else (regionRead Quad.zero m index).zip (· + ·) x))
    (index := fun c : Nat × Nat => cellIndex w c.1 c.2)
    (value := fun c old => if fresh = true then rawQuad b raw c.1 c.2 else old.zip (· + ·) (rawQuad b raw c.1 c.2))
    (P := fun m => regionWf Quad.zero m = true) (fun m c h => regionWrite_wf _ _ h)
    (fun m c k h => by
      dsimp only
      rw [regionRead_regionWrite _ k _ h]
      by_cases here : k = cellIndex w c.1 c.2
      · rw [if_pos here, if_pos here, here]
      · rw [if_neg here, if_neg here]) (tileCells w t) wf
  exact ⟨fun c hc => added (nodup_cellIndex hw t) c hc, kept⟩

/-! ## Contributions, transforms and the sine table (R69 to R71, R116, R117) -/

theorem groundContribution_rows (l : Light) (i j : Nat) :
    ((cellTile l.width l.tiles i j).tileClass = .sky → l.groundContribution i j = none) ∧
    ((cellTile l.width l.tiles i j).tileClass ≠ .sky → l.groundContribution i j = some (l.cell i j)) :=
  ⟨fun sky => if_pos (beq_iff_eq.mpr sky), fun other => if_neg (mt beq_iff_eq.mp other)⟩

theorem inFrame_iff (l : Light) (p q : Int) : l.inFrame (p / 32) (q / 32) = true ↔
    0 ≤ p ∧ p < 32 * (l.width / 2 : Nat) ∧ 0 ≤ q ∧ q < 32 * (l.height / 2 : Nat) := by
  simp only [Light.inFrame, Bool.and_eq_true, decide_eq_true_eq]
  omega

theorem skyContribution_of_ground {l : Light} {i j : Nat} (m : Transform)
    (h : (cellTile l.width l.tiles i j).tileClass = .ground) : l.skyContribution m i j = none :=
  if_pos (beq_iff_eq.mpr h)

/-- The sky contribution is that of the sub cell which the mapped centre falls into (R117). -/
theorem skyContribution_of_notGround {l : Light} {i j : Nat} (m : Transform)
    (h : (cellTile l.width l.tiles i j).tileClass ≠ .ground) :
    l.skyContribution m i j =
      if !l.inFrame ((m.apply l.width l.height (32 * i + 16, 32 * j + 16)).1 / 32)
          ((m.apply l.width l.height (32 * i + 16, 32 * j + 16)).2 / 32) then none
      else if (cellTile l.width l.tiles ((m.apply l.width l.height (32 * i + 16, 32 * j + 16)).1 / 32).toNat
          ((m.apply l.width l.height (32 * i + 16, 32 * j + 16)).2 / 32).toNat).tileClass == .ground then none
      else some (l.cell ((m.apply l.width l.height (32 * i + 16, 32 * j + 16)).1 / 32).toNat
        ((m.apply l.width l.height (32 * i + 16, 32 * j + 16)).2 / 32).toNat) :=
  if_neg (mt beq_iff_eq.mp h)

theorem roundDiv_mul (n : Int) {d : Int} (hd : 0 < d) : roundDiv (n * d) d = n := by
  have half (m : Int) : (2 * (m * d) + d) / (2 * d) = m := by
    rw [show 2 * (m * d) + d = d + (2 * d) * m by ring, Int.add_mul_ediv_left _ _ (by omega),
      Int.ediv_eq_zero_of_lt (by omega) (by omega), zero_add]
  unfold roundDiv
  split_ifs
  · exact half n
  · rw [← neg_mul, half, neg_neg]

/-- The sine by the quarter of the angle and its rest (R69). -/
theorem sine_of_quarter {n q a : Nat} (h : n % 65536 = 16384 * q + a) (ha : a < 16384) : sine n =
    if q = 0 then sineEntry a else if q = 1 then sineEntry (16384 - a) else if q = 2 then -sineEntry a
    else -sineEntry (16384 - a) := by
  have quarter : n % 65536 / 16384 = q := by omega
  have rest : n % 16384 = a := by omega
  simp only [sine, quarter, rest]

theorem sineEntry_zero : sineEntry 0 = 0 := by decide +kernel

theorem sineEntry_full : sineEntry 16384 = 32767 := by decide +kernel

theorem sineEntry_tenDegrees : sineEntry 1820 = 5689 ∧ sineEntry 14564 = 32269 := by decide +kernel

/-- The four quarters of the sine, each with both its ends (R69). -/
theorem sine_quarters {n a : Nat} (ha : a ≤ 16384) :
    (n % 65536 = a → sine n = sineEntry a) ∧ (n % 65536 = 16384 + a → sine n = sineEntry (16384 - a)) ∧
    (n % 65536 = 32768 + a → sine n = -sineEntry a) ∧
    (n % 65536 = (49152 + a) % 65536 → sine n = -sineEntry (16384 - a)) := by
  rcases Nat.lt_or_eq_of_le ha with inside | rfl
  · refine ⟨fun h => ?_, fun h => ?_, fun h => ?_, fun h => ?_⟩
    · rw [sine_of_quarter (q := 0) (by omega) inside, if_pos rfl]
    · rw [sine_of_quarter (q := 1) (by omega) inside, if_neg (by decide), if_pos rfl]
    · rw [sine_of_quarter (q := 2) (by omega) inside, if_neg (by decide), if_neg (by decide), if_pos rfl]
    · rw [sine_of_quarter (q := 3) (by omega) inside, if_neg (by decide), if_neg (by decide), if_neg (by decide)]
  · have zero : (0 : Nat) < 16384 := by decide
    refine ⟨fun h => ?_, fun h => ?_, fun h => ?_, fun h => ?_⟩
    · rw [sine_of_quarter (q := 1) (by omega) zero, if_neg (by decide), if_pos rfl]
    · rw [sine_of_quarter (q := 2) (by omega) zero, if_neg (by decide), if_neg (by decide), if_pos rfl, Nat.sub_self,
        sineEntry_zero, neg_zero]
    · rw [sine_of_quarter (q := 3) (by omega) zero, if_neg (by decide), if_neg (by decide), if_neg (by decide)]
    · rw [sine_of_quarter (q := 0) (by omega) zero, if_pos rfl, Nat.sub_self, sineEntry_zero, neg_zero]

/-- The sine is odd and the cosine even, around the full turn (R69). -/
theorem sine_neg {phi n : Nat} (h : (phi + n) % 65536 = 0) : sine n = -sine phi := by
  obtain ⟨q, hq, a, ha, split⟩ : ∃ q < 4, ∃ a < 16384, phi % 65536 = 16384 * q + a :=
    ⟨phi % 65536 / 16384, by omega, phi % 16384, by omega, by omega⟩
  obtain ⟨first, second, third, fourth⟩ := sine_quarters (n := phi) ha.le
  obtain ⟨first', second', third', fourth'⟩ := sine_quarters (n := n) (a := 16384 - a) (by omega)
  rw [show 16384 - (16384 - a) = a by omega] at second' fourth'
  interval_cases q
  · rw [first (by omega), fourth' (by omega)]
  · rw [second (by omega), third' (by omega)]
  · rw [third (by omega), second' (by omega), neg_neg]
  · rw [fourth (by omega), first' (by omega), neg_neg]

/-- Angles apart by a half turn's complement have one sine (R69). -/
theorem sine_supplement {phi n : Nat} (h : (phi + n) % 65536 = 32768) : sine n = sine phi := by
  obtain ⟨q, hq, a, ha, split⟩ : ∃ q < 4, ∃ a < 16384, phi % 65536 = 16384 * q + a :=
    ⟨phi % 65536 / 16384, by omega, phi % 16384, by omega, by omega⟩
  obtain ⟨first, second, third, fourth⟩ := sine_quarters (n := phi) ha.le
  obtain ⟨first', second', third', fourth'⟩ := sine_quarters (n := n) (a := 16384 - a) (by omega)
  rw [show 16384 - (16384 - a) = a by omega] at second' fourth'
  interval_cases q
  · rw [first (by omega), second' (by omega)]
  · rw [second (by omega), first' (by omega)]
  · rw [third (by omega), fourth' (by omega)]
  · rw [fourth (by omega), third' (by omega)]

theorem sine_rows {phi : Nat} (hphi : phi < 65536) :
    let a := phi - 16384 * (phi / 16384)
    (phi / 16384 = 0 → sine phi = sineEntry a) ∧ (phi / 16384 = 1 → sine phi = sineEntry (16384 - a)) ∧
    (phi / 16384 = 2 → sine phi = -sineEntry a) ∧ (phi / 16384 = 3 → sine phi = -sineEntry (16384 - a)) ∧
    cosine phi = sine ((phi + 16384) % 65536) ∧ sine ((65536 - phi) % 65536) = -sine phi ∧
    cosine ((65536 - phi) % 65536) = cosine phi := by
  intro a
  obtain ⟨first, second, third, fourth⟩ := sine_quarters (n := phi) (a := a) (by omega)
  refine ⟨fun h => first (by omega), fun h => second (by omega), fun h => third (by omega), fun h => fourth (by omega),
    ?_, sine_neg (by omega), sine_supplement (by omega)⟩
  simp [cosine, sine]

theorem identity_apply (w h : Nat) (r : Position) : Transform.identity.apply w h r = r := by
  have sn : sine 0 = 0 := ((sine_quarters (by omega)).1 rfl).trans sineEntry_zero
  have cs : cosine 0 = 32767 := ((sine_quarters (a := 0) (by omega)).2.1 rfl).trans sineEntry_full
  have phi : Transform.identity.phi = 0 := rfl
  rw [Transform.apply, phi, sn, cs, rotateForward]
  simp only [mul_zero, sub_zero, zero_add]
  rw [roundDiv_mul _ (by decide), roundDiv_mul _ (by decide)]
  refine Prod.ext ?_ ?_ <;> simp [Transform.identity]

/-! ## Merged tiles of the part (R95, R114) -/

theorem exec_engineTileComplete_merging {s : State} {i : Fin 6} {o : SubOutcome} {aligned : Bool}
    {sky : Option Transform} (powered : s.powered = true) (job : s.engine.job = .descriptor i)
    (noStop : s.engine.stop = .none) (tile : s.engine.tilesDone < s.tileCount)
    (work : s.engine.work = .merging o aligned sky) : exec .engineTileComplete s =
      .next ((mergeOneTile i sky s.engine.tilesDone (granted s)).onEngine fun e =>
        { e with tilesDone := e.tilesDone + 1 }) := by
  have worked : tileWork (granted s) = mergeOneTile i sky s.engine.tilesDone (granted s) := by
    simp [tileWork, granted, State.onEngine, job, work]
  have step := exec_engineTileComplete_of_powered powered noStop tile (by simp [job])
  rwa [completeTile_of_noStop (by rw [worked]; exact noStop), worked,
    countTile_of_not_measuring (by simp [State.measuring, mergeOneTile, granted, work])] at step

theorem exec_engineTileComplete_darkMerging {s : State} {i : Fin 6} {k : Fin 4} (powered : s.powered = true)
    (job : s.engine.job = .descriptor i) (noStop : s.engine.stop = .none) (tile : s.engine.tilesDone < s.tileCount)
    (work : s.engine.work = .darkMerging) (target : s.darks.mergeTarget = some k) : exec .engineTileComplete s =
      .next { s with
        engine := { s.engine with tilesDone := s.engine.tilesDone + 1, lastGranted := .engine }
        dram := { s.dram with darkSums := s.dram.darkSums.set k (darkMergeTile s.port.width s.port.bayer
          s.dram.staging[i] (s.darks.slots[k].count == 0) s.engine.tilesDone s.dram.darkSums[k]) } } := by
  have worked : tileWork (granted s) = darkOneTile i s.engine.tilesDone (granted s) := by
    simp [tileWork, granted, State.onEngine, job, work]
  have merged : darkOneTile i s.engine.tilesDone (granted s) = { granted s with
      dram := { s.dram with darkSums := s.dram.darkSums.set k (darkMergeTile s.port.width s.port.bayer
        s.dram.staging[i] (s.darks.slots[k].count == 0) s.engine.tilesDone s.dram.darkSums[k]) } } := by
    simp [darkOneTile, granted, State.onEngine, State.onDram, target]
  have step := exec_engineTileComplete_of_powered powered noStop tile (by simp [job])
  rwa [completeTile_of_noStop (by rw [worked, merged]; exact noStop), worked, merged,
    countTile_of_not_measuring (by simp [State.measuring, granted, work])] at step

/-- Settles O51. -/
theorem mergedTilesAccountForEveryContribution : Obligations.MergedTilesAccountForEveryContribution := by
  refine ⟨fun l plan sky t acc => ⟨?_, fun none => ?_⟩, fun l plan sky t acc hw skyWf groundWf =>
    regionRead_mergeTile plan sky t hw ⟨skyWf, groundWf⟩, fun l m i j => ?_, fun w h m r =>
    ⟨rfl, rfl, identity_apply w h r⟩, fun phi h => sine_rows h, ⟨sineEntry_zero, sineEntry_tenDegrees.1, sineEntry_tenDegrees.2, sineEntry_full⟩,
    fun s i powered job noStop tile => ⟨fun o aligned sky work => ?_, fun k work target wf hw => ?_⟩⟩
  · exact foldl_tally (count := tally) (tally_mergeCell l plan sky) (tileCells l.width t) acc
  · subst none
    exact mergeTile_noSky l plan t acc
  · obtain ⟨groundSky, groundElse⟩ := groundContribution_rows l i j
    refine ⟨groundSky, groundElse, skyContribution_of_ground m, fun outside => ?_, fun x y hx hy x0 x1 y0 y1 sky => ?_⟩
    · by_cases ground : (cellTile l.width l.tiles i j).tileClass = .ground
      · exact skyContribution_of_ground m ground
      · rw [skyContribution_of_notGround m ground]
        exact if_pos (by simpa using mt (inFrame_iff l _ _).mp outside)
    · have column : (m.apply l.width l.height (32 * i + 16, 32 * j + 16)).1 / 32 = x := by omega
      have row : (m.apply l.width l.height (32 * i + 16, 32 * j + 16)).2 / 32 = y := by omega
      have inside : l.inFrame (x : Int) (y : Int) = true := by
        simp only [Light.inFrame, Bool.and_eq_true, decide_eq_true_eq]
        omega
      rw [skyContribution_of_notGround m (by exact sky), column, row, inside, Int.toNat_natCast, Int.toNat_natCast]
      simp only [Bool.not_true, Bool.false_eq_true, if_false, beq_iff_eq]
      rfl
  · rw [exec_engineTileComplete_merging powered job noStop tile work]
    have light : (granted s).lightOf i (granted s).darks.inUse = s.lightOf i s.darks.inUse := rfl
    rw [mergeOneTile, light]
    dsimp only [granted, State.onEngine, State.onDram, State.onDesc, State.onRing, State.onSession]
  · have staged : regionWf Quad.zero s.dram.darkSums[k] = true :=
      ((StepLaws.dramWf_iff s.dram).mp ((StepLaws.memoryWf_iff s).mp wf).1).2.1 k
    obtain ⟨merged, kept⟩ := regionRead_darkMergeTile s.port.bayer s.dram.staging[i] (s.darks.slots[k].count == 0)
      s.engine.tilesDone hw staged
    have own : (s.dram.darkSums.set k (darkMergeTile s.port.width s.port.bayer s.dram.staging[i]
        (s.darks.slots[k].count == 0) s.engine.tilesDone s.dram.darkSums[k]))[k] = darkMergeTile s.port.width
          s.port.bayer s.dram.staging[i] (s.darks.slots[k].count == 0) s.engine.tilesDone s.dram.darkSums[k] :=
      Vector.getElem_set_self _
    refine ⟨_, exec_engineTileComplete_darkMerging powered job noStop tile work target, by dsimp only,
      fun j other => Vector.getElem_set_ne k.isLt _ fun same => other (Fin.ext same.symm), fun c hc => ?_, fun index h => ?_⟩
    · dsimp only
      rw [own, merged c hc]
      simp only [beq_iff_eq]
      rfl
    · dsimp only
      rw [own, kept index h]

end Sys2Proof.Proofs.TilesAndPlanes
end

section
/-! PROOFS. The Power Controller's own steps: the entry to DOZE, the completion of transitions, the waiting request, and the
two ends of a hold. -/

namespace Sys2Proof.Proofs.PowerSteps

open Sys2Proof.Machine Sys2Proof.Safety Sys2Proof.Proofs.SessionRequests Sys2Proof.Proofs.SequencerSteps
  Sys2Proof.Proofs.EngineJobs Sys2Proof.Proofs.PlainReads

-- The declarations are elaborated one after another, which keeps the check of the whole text within its memory.
set_option Elab.async false

/-! ## The entry to DOZE (R140) -/

theorem idleOrLost_iff (s : State) : s.idleOrLost = true ↔ s.session.state = .idle ∨ s.session.state = .lost := by
  simp only [State.idleOrLost, Bool.or_eq_true, beq_iff_eq]

theorem noBulkRead_iff (l : LinkState) : l.bulkRead.isNone = true ↔ ∀ r b, l.response ≠ some ⟨r, some b⟩ := by
  unfold LinkState.bulkRead
  rcases l.response with _ | ⟨r, _ | b⟩ <;> simp

theorem engineIdle_iff (s : State) : s.engineHasWork = false ↔ s.engine.job = .none ∧ s.engine.stop = .none ∧
    s.engine.clearPending = false ∧ s.engine.finishPending = false ∧ s.engine.previewPending = false ∧
    ∀ i : Fin 6, s.ring.desc[i].state ≠ .waiting := by
  rw [← Bool.not_eq_true, engineHasWork_iff]
  simp only [not_or, not_not, not_exists, Bool.not_eq_true]

/-- The eight conditions of the entry to DOZE (R140). -/
theorem dozeDue_iff (s : State) : s.dozeDue = true ↔
    s.power.state = .active ∧ s.power.changing = false ∧ s.plan.autoDoze = true ∧ s.power.stayAwake = false ∧
    (s.engine.job = .none ∧ s.engine.stop = .none ∧ s.engine.clearPending = false ∧ s.engine.finishPending = false ∧
      s.engine.previewPending = false ∧ ∀ i : Fin 6, s.ring.desc[i].state ≠ .waiting) ∧
    (∀ r b, s.pLink.response ≠ some ⟨r, some b⟩) ∧ (∀ i : Fin 6, s.ring.desc[i].state ≠ .reading) ∧
    (∀ n, s.timeRemaining = some n → 250 < n) ∧
    ¬(s.power.waiting = true ∧ (s.session.state = .idle ∨ s.session.state = .lost)) := by
  rw [← engineIdle_iff, ← noBulkRead_iff, ← State.reading_none_iff, ← idleOrLost_iff]
  simp only [State.dozeDue, State.dozeConditions, List.all_cons, List.all_nil, id_eq, Bool.and_eq_true, beq_iff_eq,
    Bool.not_eq_true', Option.isNone_iff_eq_none, Option.all_eq_true, decide_eq_true_eq, and_true, and_assoc]
  simp

/-! ## Transitions (R138, R139, R141, R150) -/

theorem exec_transition_of_ready {s : State} (h : s.transitionReady = true) :
    exec .powerTransitionComplete s = .next (completeTransition s) := congrArg _ (if_pos h)

theorem exec_transition_of_not_ready {s : State} (h : s.transitionReady = false) :
    exec .powerTransitionComplete s = .next s := congrArg _ (if_neg (Bool.eq_false_iff.mp h))

/-- What the engine still owes to the transition in progress (R139, R150). -/
theorem transitionReady_active {s : State} (active : s.power.state = .active) : s.transitionReady = true ↔
    s.power.changing = true ∧ (s.power.lastWake ≠ some .supplyReturn ∨ s.engine.stop = .none) := by
  simp [State.transitionReady, active, Power.fromHold]

theorem transitionReady_doze {s : State} (doze : s.power.state = .doze) (changing : s.power.changing = true) :
    s.transitionReady = true := by
  simp [State.transitionReady, doze, changing]

theorem transitionReady_down {s : State} (down : s.power.state = .hold ∨ s.power.state = .standby) :
    s.transitionReady = true ↔ s.power.changing = true ∧ s.engine.job = .none := by
  rcases down with h | h <;> simp [State.transitionReady, h]

theorem completeTransition_active {s : State} (h : s.power.state = .active) : completeTransition s =
    raise .powerState { s with power := { s.power with changing := false, memory := .active, engineOn := true } } := by
  have settled : s.power.settled = { s.power with changing := false, memory := .active, engineOn := true } := by
    simp only [Power.settled, h]
  simp only [completeTransition, h, State.onPower, settled]

theorem completeTransition_hold {s : State} (h : s.power.state = .hold) : completeTransition s =
    raise .powerState { s with
      power := { s.power with changing := false, memory := .selfRefresh, engineOn := false } } := by
  have settled : s.power.settled = { s.power with changing := false, memory := .selfRefresh, engineOn := false } := by
    simp only [Power.settled, h]
  simp only [completeTransition, h, State.onPower, settled]

theorem completeTransition_doze {s : State} (h : s.power.state = .doze) : completeTransition s =
    takeKeptWake (raise .powerState { s with
      power := { s.power with changing := false, memory := .selfRefresh, engineOn := false } }) := by
  have settled : s.power.settled = { s.power with changing := false, memory := .selfRefresh, engineOn := false } := by
    simp only [Power.settled, h]
  simp only [completeTransition, h, State.onPower, settled]

theorem completeTransition_standby {s : State} (h : s.power.state = .standby) : completeTransition s =
    raise .powerState { s with
      power := { s.power with changing := false, memory := .off, engineOn := false }, dram := Dram.cleared } := by
  have settled : s.power.settled = { s.power with changing := false, memory := .off, engineOn := false } := by
    simp only [Power.settled, h]
  simp only [completeTransition, h, State.onPower, settled]
  rfl

/-- Settles O57. -/
theorem powerTransitionsBeginAndComplete : Obligations.PowerTransitionsBeginAndComplete := by
  refine fun s => ⟨timeRemaining_right s, ⟨fun due => congrArg _ (if_pos ((dozeDue_iff s).mpr due)),
    fun notDue => congrArg _ (if_neg (mt (dozeDue_iff s).mp notDue))⟩, fun changing active owed => ?_,
    fun changing active cause stop => ?_, fun settled => ?_, fun changing doze noWake => ?_,
    fun changing doze kept => ?_, fun changing hold noJob => ?_, fun changing down job => ?_,
    fun changing standby noJob => ?_, fun waiting active settled idle => ?_⟩
  · rw [exec_transition_of_ready ((transitionReady_active active).mpr ⟨changing, owed⟩), completeTransition_active active]
  · refine exec_transition_of_not_ready (Bool.eq_false_iff.mpr fun ready => ?_)
    obtain ⟨-, h | h⟩ := (transitionReady_active active).mp ready
    exacts [h cause, stop h]
  · exact exec_transition_of_not_ready (by simp [State.transitionReady, settled])
  · rw [exec_transition_of_ready (transitionReady_doze doze changing), completeTransition_doze doze]
    exact congrArg _ (if_neg (by exact Bool.eq_false_iff.mp noWake))
  · rw [exec_transition_of_ready (transitionReady_doze doze changing), completeTransition_doze doze]
    exact congrArg _ (if_pos (by exact kept))
  · rw [exec_transition_of_ready ((transitionReady_down (.inl hold)).mpr ⟨changing, noJob⟩), completeTransition_hold hold]
  · refine exec_transition_of_not_ready (Bool.eq_false_iff.mpr fun ready => ?_)
    exact job ((transitionReady_down down).mp ready).2
  · rw [exec_transition_of_ready ((transitionReady_down (.inr standby)).mpr ⟨changing, noJob⟩),
      completeTransition_standby standby]
  · exact congrArg _ (if_pos (by simp [State.waitingDue, waiting, (idleOrLost_iff s).mpr idle, State.powered, active, settled]))

/-! ## The ends of a hold (R18, R23, R47, R150, R151) -/

/-- The debounce timer as the end of a hold starts it (R47). -/
def debounceRestarted (s : State) : Option Clock :=
  if s.lines.remoteLow = s.seq.remotePressed then none else some (s.seq.clock + 20#32)

theorem restartDebounce_eq (s : State) :
    restartDebounce s = { s with seq := { s.seq with debounceTimer := debounceRestarted s } } := by
  unfold restartDebounce debounceRestarted
  simp only [beq_iff_eq]
  rfl

/-- The state in which the supply has returned, before the session's return (R150). -/
def supplyReturned (s : State) : State := raise .holdChanged { s with
  power := { s.power with state := .active, changing := true, reserveTimer := none, lastWake := some .supplyReturn }
  lines := { s.lines with pfWarn := false }, seq := { s.seq with debounceTimer := debounceRestarted s } }

theorem supplyReturns_eq (s : State) : supplyReturns s = sessionReturn (supplyReturned s) :=
  congrArg sessionReturn (restartDebounce_eq (raise .holdChanged { s with
    power := { s.power with state := .active, changing := true, reserveTimer := none, lastWake := some .supplyReturn }
    lines := { s.lines with pfWarn := false } }))

theorem exec_supplyReturn {s : State} (hold : s.power.state = .hold) :
    exec .supplyReturn s = .next (sessionReturn (supplyReturned s)) := by
  rw [← supplyReturns_eq]
  exact congrArg _ (if_pos (beq_iff_eq.mpr hold))

/-- A session that is not paused (HOLD), or whose plan does not resume it, stays as it is (R18). -/
theorem sessionReturn_stays {s : State} (h : ¬(s.session.state = .paused ∧ s.session.pauseCause = some .hold) ∨
    s.plan.resumeAfterHold = false) : sessionReturn s = s := by
  refine if_neg ?_
  simp only [Bool.and_eq_true, beq_iff_eq]
  rintro ⟨paused, resume⟩
  rcases h with h | h
  exacts [h paused, absurd (h.symm.trans resume) (by decide)]

theorem sessionReturn_resumes {s : State} (paused : s.session.state = .paused ∧ s.session.pauseCause = some .hold)
    (resume : s.plan.resumeAfterHold = true) : sessionReturn s = checkLimits (cadenceAfresh (enterRunning s)) :=
  if_pos (by simp [paused.1, paused.2, resume])

/-- The state in which the reserve has run out and the session is not yet lost (R151). -/
def reserveExpired (s : State) : State := raise .holdChanged { s with
  power := { s.power with state := .standby, changing := true, reserveTimer := none, waiting := false } }

/-- What the reserve expiry makes of the rest of the part (R151). -/
def emptied (s : State) : State := restartDebounce (emptyMarkers (emptyLibrary (abandonEngine s.emptyRing)))

theorem exec_reserveExpiry {s : State} (hold : s.power.state = .hold)
    (due : s.power.reserveTimer = some s.seq.clock) :
    exec .reserveExpiry s = .next (emptied (loseSession (reserveExpired s))) :=
  congrArg _ (if_pos (by simp [State.reserveDue, hold, due, State.now]))

theorem loseSession_lost {s : State} (h : s.session.state ≠ .idle) (h' : s.session.state ≠ .lost) :
    loseSession s = applyPending (enterSession .lost s) := by
  refine if_neg ?_
  rw [idleOrLost_iff]
  exact fun either => either.elim h h'

/-- Settles O56. -/
theorem aHoldEndsByReturnOrExpiry : Obligations.AHoldEndsByReturnOrExpiry := by
  refine ⟨fun s => ⟨fun hold cause => ?_, fun hold due paused none => ?_, fun low notReady => ?_, fun high notHold => ?_⟩,
    fun s hold => ?_⟩
  · have bit := (raise_pending (e := .holdChanged) (k := 14) (by decide) { s with
      power := (supplyReturned s).power, lines := (supplyReturned s).lines, seq := (supplyReturned s).seq }).1
    refine ⟨_, (exec_supplyReturn hold).trans (congrArg _ (sessionReturn_stays (.inl fun paused => cause paused.2))), ?_⟩
    exact ⟨rfl, rfl, rfl, rfl, rfl, rfl, bit⟩
  · refine ⟨_, (exec_reserveExpiry hold due).trans (congrArg (fun t => Host.Outcome.next (emptied t))
      ((loseSession_lost (by exact fun h => nomatch paused.symm.trans h)
        (by exact fun h => nomatch paused.symm.trans h)).trans (applyPending_of_none (by exact none)))), ?_⟩
    rw [emptied, restartDebounce_eq]
    refine ⟨rfl, rfl, fun i => ?_, rfl, rfl, rfl, rfl, rfl, rfl, rfl, rfl, rfl⟩
    exact Vector.getElem_replicate ..
  · change execPfWarnLineChange true s = _
    simp only [execPfWarnLineChange, low, pfWarnChanges, notReady]
    rfl
  · change execPfWarnLineChange false s = _
    simp [execPfWarnLineChange, high, pfWarnChanges, notHold]
    rfl
  · dsimp only
    rw [exec_supplyReturn hold]
    have session : (cadenceAfresh (enterRunning (supplyReturned s))).session = { s.session with
        pauseCause := none, state := if s.session.referenceSet = true then .integrating else .referencing } := by
      rw [cadenceAfresh_session]
      rfl
    have plan : (cadenceAfresh (enterRunning (supplyReturned s))).plan = s.plan := by simp only [State.plan, session]
    have running : (cadenceAfresh (enterRunning (supplyReturned s))).running = true := by
      rw [running_iff, session]
      dsimp only
      split <;> simp
    refine ⟨fun paused resume unmet => ?_, fun paused resume auto met => ?_, fun stays => ?_, fun high => ?_,
      fun k due notIdle notLost pending => ?_, fun due idle => ?_⟩
    · rw [sessionReturn_resumes (by exact paused) (by exact resume), checkLimits_of_unmet]
      · rfl
      · rw [plan, session]
        exact unmet
    · rw [sessionReturn_resumes (by exact paused) (by exact resume), checkLimits_of_met running (by rw [plan, auto])]
      · rfl
      · rw [plan, session]
        exact met
    · exact congrArg _ (sessionReturn_stays stays)
    · rw [← exec_supplyReturn hold]
      change execPfWarnLineChange false s = execSupplyReturn s
      simp [execPfWarnLineChange, high, pfWarnChanges, hold, execSupplyReturn]
    · refine ⟨_, (exec_reserveExpiry hold due).trans (congrArg (fun t => Host.Outcome.next (emptied t))
        ((loseSession_lost (by exact notIdle) (by exact notLost)).trans (applyPending_of_some (by exact pending)))), ?_⟩
      obtain ⟨stateP, stateS⟩ := raise_pending (e := .sessionState) (k := 0) (by decide) (reserveExpired s)
      obtain ⟨planP, planS⟩ := raise_pending (e := .planSwitched) (k := 1) (by decide)
        (raise .sessionState (reserveExpired s))
      rw [emptied, restartDebounce_eq]
      exact ⟨rfl, rfl, planP, planS, raised_pending .planSwitched stateP, raised_pending .planSwitched stateS⟩
    · refine ⟨_, (exec_reserveExpiry hold due).trans (congrArg (fun t => Host.Outcome.next (emptied t))
        (if_pos ((idleOrLost_iff _).mpr (.inl (by exact idle))))), ?_⟩
      rw [emptied, restartDebounce_eq]
      exact ⟨rfl, rfl⟩

end Sys2Proof.Proofs.PowerSteps
end

section
/-! PROOFS. The hold entry: what it retires, what it keeps, and the stops that it asks of the engine. -/

namespace Sys2Proof.Proofs.HoldEntry

open Sys2Proof.Machine Sys2Proof.Safety Sys2Proof.Proofs.SessionRequests Sys2Proof.Proofs.SequencerSteps
  Sys2Proof.Proofs.RetirementsAndFrames Sys2Proof.Proofs.EngineJobs Sys2Proof.Proofs.PowerSteps

-- The declarations are elaborated one after another, which keeps the check of the whole text within its memory.
set_option Elab.async false

/-! ## Retirements by a stop (R47, R58, R121) -/

/-- What the retirements of a hold, and a stop of the engine, leave: the power items, the sequencer, the lines, the pending
response and the pending events, and the state of a session that does not drain. -/
structure Stops (s t : State) : Prop where
  power : t.power = s.power
  seq : t.seq = s.seq
  lines : t.lines = s.lines
  response : t.pLink.response = s.pLink.response
  pendingP : ∀ k, s.pLink.pendingSet.getLsbD k = true → t.pLink.pendingSet.getLsbD k = true
  pendingS : ∀ k, s.sLink.pendingSet.getLsbD k = true → t.sLink.pendingSet.getLsbD k = true
  session : s.session.state ≠ .draining →
    t.session.state = s.session.state ∧ t.session.pauseCause = s.session.pauseCause

namespace Stops

variable {s t u : State}

theorem refl (s : State) : Stops s s := ⟨rfl, rfl, rfl, rfl, fun _ h => h, fun _ h => h, fun _ => ⟨rfl, rfl⟩⟩

theorem trans (h : Stops s t) (g : Stops t u) : Stops s u where
  power := g.power.trans h.power
  seq := g.seq.trans h.seq
  lines := g.lines.trans h.lines
  response := g.response.trans h.response
  pendingP k b := g.pendingP k (h.pendingP k b)
  pendingS k b := g.pendingS k (h.pendingS k b)
  session notDraining := by
    obtain ⟨state, cause⟩ := h.session notDraining
    obtain ⟨state', cause'⟩ := g.session (by rwa [state])
    exact ⟨state'.trans state, cause'.trans cause⟩

/-- A change of the ring, the engine, the library or the results alone. -/
theorem of_eq (power : t.power = s.power) (seq : t.seq = s.seq) (lines : t.lines = s.lines) (pLink : t.pLink = s.pLink)
    (sLink : t.sLink = s.sLink) (session : t.session = s.session) : Stops s t where
  power := power
  seq := seq
  lines := lines
  response := by rw [pLink]
  pendingP k b := by rwa [pLink]
  pendingS k b := by rwa [sLink]
  session _ := by rw [session]; exact ⟨rfl, rfl⟩

end Stops

theorem counterPause_of_stop {o : SubOutcome} (h : o = .rejected .abandoned ∨ o = .partialMerge) (s : State) :
    counterPause o s = s := by
  rcases h with rfl | rfl <;> rfl

theorem retire_of_stop {o : SubOutcome} (h : o = .rejected .abandoned ∨ o = .partialMerge) (i : Fin 6) (resolved : Bool)
    (s : State) : retire i o resolved s = drainCheck .alarm (retireRecord i o resolved s) := by
  rw [retire, counterPause_of_stop h]

theorem retire_of_stop_not_draining {o : SubOutcome} (h : o = .rejected .abandoned ∨ o = .partialMerge) (i : Fin 6)
    (resolved : Bool) {s : State} (notDraining : s.session.state ≠ .draining) :
    retire i o resolved s = retireRecord i o resolved s := by
  rw [retire_of_stop h, drainCheck_of_not_draining _ (by exact notDraining)]

theorem stops_retireRecord (i : Fin 6) (o : SubOutcome) (resolved : Bool) (s : State) :
    Stops s (retireRecord i o resolved s) where
  power := rfl
  seq := rfl
  lines := rfl
  response := rfl
  pendingP _ b := raised_pending .subRetired b
  pendingS _ b := raised_pending .subRetired b
  session _ := ⟨rfl, rfl⟩

/-- The end of a drain outside DOZE wakes nothing (R13, R141). -/
theorem stops_drainCheck {s : State} (notDoze : s.power.state ≠ .doze) (c : WakeCause) : Stops s (drainCheck c s) := by
  rcases drainCheck_cases c s with ⟨draining, -, e⟩ | ⟨-, e⟩
  · rw [e, wake_of_not_doze c (by exact notDoze)]
    exact ⟨rfl, rfl, rfl, rfl, fun _ b => raised_pending .sessionState b, fun _ b => raised_pending .sessionState b,
      fun h => absurd draining h⟩
  · rw [e]
    exact .refl s

theorem stops_retire {o : SubOutcome} (h : o = .rejected .abandoned ∨ o = .partialMerge) (i : Fin 6) (resolved : Bool)
    {s : State} (notDoze : s.power.state ≠ .doze) : Stops s (retire i o resolved s) := by
  rw [retire_of_stop h]
  exact (stops_retireRecord i o resolved s).trans (stops_drainCheck (by exact notDoze) _)

/-- A retirement by a stop sets no item of the engine but the finish mark, and that at the end of a drain (R13). -/
theorem retire_engine {o : SubOutcome} (h : o = .rejected .abandoned ∨ o = .partialMerge) (i : Fin 6) (resolved : Bool)
    (s : State) : (retire i o resolved s).engine =
      { s.engine with finishPending := (retire i o resolved s).engine.finishPending } := by
  rw [retire_of_stop h]
  rcases drainCheck_cases .alarm (retireRecord i o resolved s) with ⟨-, -, e⟩ | ⟨-, e⟩ <;> rw [e]
  · rw [wake_engine]
    rfl
  · rfl

theorem retire_ring {o : SubOutcome} (h : o = .rejected .abandoned ∨ o = .partialMerge) (i : Fin 6) (resolved : Bool)
    (s : State) : (retire i o resolved s).ring = { s.ring with
      desc := s.ring.desc.set i { s.ring.desc[i] with state := .retired, outcome := some o }
      lastRetired := s.ring.desc[i].sub } := by
  rw [retire_of_stop h, drainCheck_ring]
  rfl

theorem retire_totals {o : SubOutcome} (h : o = .rejected .abandoned ∨ o = .partialMerge) (i : Fin 6) (resolved : Bool)
    (s : State) :
    (retire i o resolved s).session.totals = s.session.totals.retire o s.ring.desc[i].exposure := by
  rw [retire_of_stop h, drainCheck_totals]
  rfl

/-! ## The stages of the hold entry (R47, R58, R148) -/

/-- The part as the hold begins: PF_WARN, the power items and HOLD_CHANGED (R148). -/
def holdBegun (s : State) : State := raise .holdChanged { s with
  lines := { s.lines with pfWarn := true }
  power := { s.power with
    state := .hold, changing := !(s.power.state == .doze)
    reserveTimer := some (s.seq.clock + BitVec.ofNat 32 (1000 * s.session.holdReserve)) } }

/-- The exposure lines released (R47). -/
def linesReleased (s : State) : State :=
  { s with lines := { s.lines with trigger := false, shutterClose := false } }

/-- The sequencer in IDLE with all its timers cancelled (R47). -/
def sequencerIdle (s : State) : State := { s with seq := { s.seq with
  phase := .idle, cadenceTimer := none, keptExpiry := false, wakeAlarm := none, shutterTimer := none
  current := none, debounceTimer := none } }

/-- A frame being received is discarded from the hold's beginning on (R58). -/
def receptionStopped : Reception → Reception
  | .receiving _ => .discarding
  | r => r

/-- The Sensor Port as the hold leaves it (R58). -/
def portIdle (s : State) : State :=
  { s with port := { s.port with readoutTimer := none, reception := receptionStopped s.port.reception } }

theorem sequencerHold_of_exposing {s : State} {c : CurrentExposure} (phase : s.seq.phase = .exposing)
    (current : s.seq.current = some c) :
    sequencerHold s = sequencerIdle (retire c.index (.rejected .abandoned) false (linesReleased s)) := by
  simp only [sequencerHold, State.onLines, phase, current]
  rfl

theorem sequencerHold_of_not_exposing {s : State} (h : s.seq.phase ≠ .exposing) :
    sequencerHold s = sequencerIdle (linesReleased s) := by
  unfold sequencerHold
  dsimp only
  split
  · next phase _ => exact absurd phase h
  · rfl

theorem portHold_of_reading {s : State} {i : Fin 6} (reading : s.reading = some i) :
    portHold s = portIdle (retire i (.rejected .abandoned) false s) := by
  simp only [portHold, reading]
  rfl

theorem portHold_of_none {s : State} (reading : s.reading = none) : portHold s = portIdle s := by
  simp only [portHold, reading]
  rfl

/-- The sequencer's hold, whether or not it retires a sub. -/
theorem sequencerHold_cases (s : State) : ∃ t, sequencerHold s = sequencerIdle t ∧
    (t = linesReleased s ∨ ∃ i, t = retire i (.rejected .abandoned) false (linesReleased s)) := by
  by_cases exposing : s.seq.phase = .exposing
  · cases current : s.seq.current with
    | some c => exact ⟨_, sequencerHold_of_exposing exposing current, .inr ⟨_, rfl⟩⟩
    | none =>
      refine ⟨linesReleased s, ?_, .inl rfl⟩
      simp only [sequencerHold, State.onLines, exposing, current]
      rfl
  · exact ⟨_, sequencerHold_of_not_exposing exposing, .inl rfl⟩

theorem portHold_cases (s : State) : ∃ t, portHold s = portIdle t ∧
    (t = s ∨ ∃ i, t = retire i (.rejected .abandoned) false s) := by
  cases reading : s.reading with
  | none => exact ⟨s, portHold_of_none reading, .inl rfl⟩
  | some i => exact ⟨_, portHold_of_reading reading, .inr ⟨i, rfl⟩⟩

/-- The part with the sequencer, the port and the session held, and the engine still to be asked (R148). -/
def heldButEngine (s : State) : State := sessionHold (portHold (sequencerHold (holdBegun s)))

/-- A stage of the hold that retires one sub at most leaves all but the ring, the account and the finish mark. -/
theorem stops_of_stage {s t : State} (notDoze : s.power.state ≠ .doze)
    (h : t = s ∨ ∃ i, t = retire i (.rejected .abandoned) false s) : Stops s t ∧
      t.engine = { s.engine with finishPending := t.engine.finishPending } ∧ t.results = s.results ∧
      t.darks = s.darks ∧ t.port = s.port ∧ (s.session.state ≠ .draining → t.engine = s.engine) := by
  rcases h with rfl | ⟨i, rfl⟩
  · exact ⟨.refl t, rfl, rfl, rfl, rfl, fun _ => rfl⟩
  · exact ⟨stops_retire (.inl rfl) i false notDoze, retire_engine (.inl rfl) i false s, retire_results .., retire_darks ..,
      retire_port .., fun notDraining => by rw [retire_of_stop_not_draining (.inl rfl) i false notDraining]; rfl⟩

theorem Stops.sequencerIdle {s t : State} (h : Stops s t) : Stops (sequencerIdle s) (sequencerIdle t) where
  power := h.power
  seq := by rw [HoldEntry.sequencerIdle, HoldEntry.sequencerIdle, h.seq]
  lines := h.lines
  response := h.response
  pendingP := h.pendingP
  pendingS := h.pendingS
  session := h.session

/-- What the hold makes of the part before the session and the engine are asked. -/
theorem portHold_stops (s : State) : ∃ t, portHold (sequencerHold (holdBegun s)) = portIdle t ∧
    Stops (sequencerIdle (linesReleased (holdBegun s))) t ∧
    t.engine = { s.engine with finishPending := t.engine.finishPending } ∧
    t.results = s.results ∧ t.darks = s.darks ∧ t.port = s.port ∧
    (s.session.state ≠ .draining → t.engine = s.engine) := by
  obtain ⟨t, sequencer, stage⟩ := sequencerHold_cases (holdBegun s)
  obtain ⟨stops, engine, results, darks, port, kept⟩ := stops_of_stage (by nofun) stage
  have notDoze : (sequencerIdle t).power.state ≠ .doze := by
    have power : (sequencerIdle t).power = (holdBegun s).power := stops.power
    rw [power]
    nofun
  obtain ⟨u, reads, stage'⟩ := portHold_cases (sequencerIdle t)
  obtain ⟨stops', engine', results', darks', port', kept'⟩ := stops_of_stage notDoze stage'
  refine ⟨u, by rw [sequencer, reads], stops.sequencerIdle.trans stops', ?_, results'.trans results, darks'.trans darks,
    port'.trans port, fun notDraining => ?_⟩
  case refine_2 =>
    have still : (sequencerIdle t).session.state ≠ .draining := by
      have state : (sequencerIdle t).session.state = s.session.state := (stops.session notDraining).1
      rwa [state]
    exact (kept' still).trans (kept notDraining)
  rw [engine', show (sequencerIdle t).engine = t.engine from rfl, engine]
  rfl

/-- The part with the sequencer, the port and the session held, item by item (R18, R47, R58). -/
theorem heldButEngine_items (s : State) :
    (heldButEngine s).power = (holdBegun s).power ∧
    (heldButEngine s).seq = (sequencerIdle s).seq ∧
    (heldButEngine s).lines = { s.lines with trigger := false, shutterClose := false, pfWarn := true } ∧
    (heldButEngine s).port = (portIdle s).port ∧
    (heldButEngine s).engine = { s.engine with finishPending := (heldButEngine s).engine.finishPending } ∧
    (heldButEngine s).results = s.results ∧ (heldButEngine s).darks = s.darks ∧
    (heldButEngine s).pLink.response = s.pLink.response := by
  obtain ⟨t, held, stops, engine, results, darks, port, -⟩ := portHold_stops s
  have session : (sessionHold (portIdle t)).pLink.response = t.pLink.response := by
    unfold sessionHold
    split_ifs <;> rfl
  rw [heldButEngine, held, sessionHold_power, sessionHold_seq, sessionHold_lines, sessionHold_port, sessionHold_engine,
    sessionHold_results, sessionHold_darks, session]
  refine ⟨stops.power, stops.seq, stops.lines, ?_, engine, results, darks, stops.response⟩
  rw [portIdle, port]
  rfl

theorem raised_of_holdBegun (s : State) :
    (heldButEngine s).pLink.pendingSet.getLsbD 14 = true ∧ (heldButEngine s).sLink.pendingSet.getLsbD 14 = true := by
  obtain ⟨t, held, stops, -⟩ := portHold_stops s
  obtain ⟨bitP, bitS⟩ := raise_pending (e := .holdChanged) (k := 14) (by decide) s
  have here := stops.pendingP 14 bitP
  have there := stops.pendingS 14 bitS
  rw [heldButEngine, held, sessionHold]
  split_ifs
  · exact ⟨raised_pending .sessionState here, raised_pending .sessionState there⟩
  · exact ⟨here, there⟩

theorem heldButEngine_engine {s : State} (notDraining : s.session.state ≠ .draining) :
    (heldButEngine s).engine = s.engine := by
  obtain ⟨t, held, -, -, -, -, -, kept⟩ := portHold_stops s
  rw [heldButEngine, held, sessionHold_engine]
  exact kept notDraining

/-- The session at the hold entry: a running one is paused (HOLD), and one that neither runs nor drains stays (R18). -/
theorem heldButEngine_session (s : State) :
    (s.running = true → (heldButEngine s).session.state = .paused ∧
      (heldButEngine s).session.pauseCause = some .hold) ∧
    (s.running = false → s.session.state ≠ .draining → (heldButEngine s).session.state = s.session.state ∧
      (heldButEngine s).session.pauseCause = s.session.pauseCause) := by
  obtain ⟨t, held, stops, -⟩ := portHold_stops s
  rw [heldButEngine, held]
  have notDraining (running : s.running = true) : s.session.state ≠ .draining := by
    rcases running_iff s |>.mp running with h | h <;> rw [h] <;> nofun
  refine ⟨fun running => ?_, fun stopped other => ?_⟩
  · obtain ⟨state, -⟩ := stops.session (notDraining running)
    have still : (portIdle t).running = true := by
      simp only [State.running, show (portIdle t).session.state = s.session.state from state]
      exact running
    rw [sessionHold, if_pos still]
    exact ⟨rfl, rfl⟩
  · obtain ⟨state, cause⟩ := stops.session other
    have still : (portIdle t).running = false := by
      simp only [State.running, show (portIdle t).session.state = s.session.state from state]
      exact stopped
    rw [sessionHold, if_neg (Bool.eq_false_iff.mp still)]
    exact ⟨state, cause⟩

/-! ## The engine at the hold entry (R121, R134) -/

/-- The part with a pending preview dropped (R134). -/
def previewDropped (s : State) : State := { s with
  engine := { s.engine with previewPending := false }
  results := if s.engine.previewPending = true then { s.results with lastPreviewEnd := some .droppedHold } else s.results }

/-- The engine asked to stop at the end of its tile (R121). -/
def askedToStop (s : State) : State := { s with engine := { s.engine with stop := .hold } }

theorem previewDropped_of_none {s : State} (none : s.engine.previewPending = false) : previewDropped s = s := by
  have engine : { s.engine with previewPending := false } = s.engine := by rw [← none]
  rw [previewDropped, if_neg (Bool.eq_false_iff.mp none), engine]

/-- The hold entry drops the preview first, and then asks the engine (R121, R134). -/
theorem engineHold_previewDropped (s : State) : engineHold s = engineHold (previewDropped s) := by
  cases pending : s.engine.previewPending with
  | false => rw [previewDropped_of_none pending]
  | true =>
    have dropped : previewDropped s = (s.onEngine fun e => { e with previewPending := false }).onResults fun r =>
        { r with lastPreviewEnd := some .droppedHold } := by
      rw [previewDropped, if_pos pending]
      rfl
    have none : (previewDropped s).engine.previewPending = false := rfl
    unfold engineHold
    rw [pending, none, if_pos rfl, if_neg Bool.false_ne_true, ← dropped]

section
variable {s : State}

theorem engineHold_of_close (stop : s.engine.stop = .close) : engineHold s = previewDropped s := by
  have stop' : (previewDropped s).engine.stop = .close := stop
  have none : (previewDropped s).engine.previewPending = false := rfl
  rw [engineHold_previewDropped]
  unfold engineHold
  rw [none, if_neg Bool.false_ne_true]
  cases job : (previewDropped s).engine.job <;> simp [stop']

theorem engineHold_of_noJob (stop : s.engine.stop ≠ .close) (job : s.engine.job = .none) : engineHold s =
    { previewDropped s with engine := { s.engine with stop := .none, previewPending := false } } := by
  have none : (previewDropped s).engine.previewPending = false := rfl
  have job' : (previewDropped s).engine.job = .none := job
  have stop' : (previewDropped s).engine.stop = s.engine.stop := rfl
  rw [engineHold_previewDropped]
  unfold engineHold
  rw [none, if_neg Bool.false_ne_true]
  dsimp only
  rw [job', stop']
  cases h : s.engine.stop with
  | close => exact absurd h stop
  | none => rfl
  | hold => rfl

/-- A clear, a finish and a preview are asked to stop (R121). -/
theorem engineHold_of_planeJob (stop : s.engine.stop = .none) (job : s.engine.job ∈ [.planeClear, .finish, .preview]) :
    engineHold s = askedToStop (previewDropped s) := by
  have none : (previewDropped s).engine.previewPending = false := rfl
  have stop' : (previewDropped s).engine.stop = .none := stop
  have job' : (previewDropped s).engine.job = s.engine.job := rfl
  rw [engineHold_previewDropped]
  unfold engineHold
  rw [none, if_neg Bool.false_ne_true]
  dsimp only
  rw [job', stop']
  simp only [List.mem_cons, List.not_mem_nil, or_false] at job
  rcases job with h | h | h <;> rw [h] <;> rfl

theorem engineHold_of_measuring {i : Fin 6} {aligned : Bool} {c : Option (Calibration × Option (Fin 4))}
    (stop : s.engine.stop = .none) (job : s.engine.job = .descriptor i) (work : s.engine.work = .measuring aligned c) :
    engineHold s = askedToStop (previewDropped s) := by
  have none : (previewDropped s).engine.previewPending = false := rfl
  have stop' : (previewDropped s).engine.stop = .none := stop
  have job' : (previewDropped s).engine.job = .descriptor i := job
  have work' : (previewDropped s).engine.work = .measuring aligned c := work
  rw [engineHold_previewDropped]
  unfold engineHold
  rw [none, if_neg Bool.false_ne_true]
  dsimp only
  rw [job', stop', work']
  rfl

/-- A merge is asked to stop, or is stopped at its start (R121). -/
theorem engineHold_of_merge {i : Fin 6} {o : SubOutcome} {aligned : Bool} {sky : Option Transform}
    (stop : s.engine.stop = .none) (job : s.engine.job = .descriptor i)
    (work : s.engine.work ∈ [.merging o aligned sky, .darkMerging]) : engineHold s =
      if s.engine.tilesDone = 0 then holdStop (previewDropped s) else askedToStop (previewDropped s) := by
  have none : (previewDropped s).engine.previewPending = false := rfl
  have stop' : (previewDropped s).engine.stop = .none := stop
  have job' : (previewDropped s).engine.job = .descriptor i := job
  have work' : (previewDropped s).engine.work = s.engine.work := rfl
  rw [engineHold_previewDropped]
  unfold engineHold
  rw [none, if_neg Bool.false_ne_true]
  dsimp only
  rw [job', stop', work']
  simp only [List.mem_cons, List.not_mem_nil, or_false] at work
  rcases work with h | h <;> rw [h] <;> rfl

end

theorem stops_giveUpMergeTarget (s : State) : Stops s (giveUpMergeTarget s) := by
  unfold giveUpMergeTarget
  split <;> exact .of_eq rfl rfl rfl rfl rfl rfl

theorem stops_holdStop {s : State} (notDoze : s.power.state ≠ .doze) : Stops s (holdStop s) := by
  have freed (t : State) : Stops t (freeEngine t) := .of_eq rfl rfl rfl rfl rfl rfl
  unfold holdStop
  refine .trans ?_ (freed _)
  split
  · exact .refl s
  · exact .of_eq rfl rfl rfl rfl rfl rfl
  · exact .of_eq rfl rfl rfl rfl rfl rfl
  · exact .of_eq rfl rfl rfl rfl rfl rfl
  · split
    · exact .trans (stops_retire (.inr rfl) _ _ notDoze) (.of_eq rfl rfl rfl rfl rfl rfl)
    · exact .trans (stops_retire (.inr rfl) _ _ notDoze) (stops_giveUpMergeTarget _)
    · exact .of_eq rfl rfl rfl rfl rfl rfl

/-- The engine's part of the hold entry keeps what its retirements keep (R121). -/
theorem stops_engineHold {s : State} (notDoze : s.power.state ≠ .doze) : Stops s (engineHold s) := by
  have asked (t : State) (f : Engine → Engine) : Stops t (t.onEngine f) := .of_eq rfl rfl rfl rfl rfl rfl
  have none : (previewDropped s).engine.previewPending = false := rfl
  rw [engineHold_previewDropped]
  refine .trans (t := previewDropped s) (.of_eq rfl rfl rfl rfl rfl rfl) ?_
  unfold engineHold
  rw [none, if_neg Bool.false_ne_true]
  dsimp only
  split
  · exact .refl _
  · exact asked _ _
  · split
    · split_ifs
      exacts [stops_holdStop notDoze, asked _ _]
    · split_ifs
      exacts [stops_holdStop notDoze, asked _ _]
    · exact asked _ _
  · exact asked _ _

section
variable {s : State} {i : Fin 6}

theorem holdStop_merging {o : SubOutcome} {aligned : Bool} {sky : Option Transform} (job : s.engine.job = .descriptor i)
    (work : s.engine.work = .merging o aligned sky) :
    holdStop s = freeEngine (clearInUse (retire i .partialMerge aligned s)) := by
  simp only [holdStop, job, work]

theorem holdStop_darkMerging (job : s.engine.job = .descriptor i) (work : s.engine.work = .darkMerging) :
    holdStop s = freeEngine (giveUpMergeTarget (retire i .partialMerge false s)) := by
  simp only [holdStop, job, work]

theorem holdStop_clear (job : s.engine.job = .planeClear) :
    holdStop s = freeEngine (s.onEngine fun e => { e with clearPending := true }) := by
  simp only [holdStop, job]

theorem holdStop_finish (job : s.engine.job = .finish) :
    holdStop s = freeEngine (s.onEngine fun e => { e with finishPending := true }) := by
  simp only [holdStop, job]

theorem holdStop_preview (job : s.engine.job = .preview) :
    holdStop s = freeEngine (s.onResults fun r => { r with lastPreviewEnd := some .droppedHold }) := by
  simp only [holdStop, job]

theorem holdStop_measuring {aligned : Bool} {c : Option (Calibration × Option (Fin 4))}
    (job : s.engine.job = .descriptor i) (work : s.engine.work = .measuring aligned c) :
    holdStop s = freeEngine (clearInUse (s.onDesc i fun d => { d with state := .waiting })) := by
  simp only [holdStop, job, work]

/-- A stopped merge leaves the results and the pending preview (R121). -/
theorem holdStop_merge_keeps (job : s.engine.job = .descriptor i)
    (work : (∃ o aligned sky, s.engine.work = .merging o aligned sky) ∨ s.engine.work = .darkMerging) :
    (holdStop s).results = s.results ∧ (holdStop s).engine.previewPending = s.engine.previewPending := by
  have retired (resolved : Bool) : (retire i .partialMerge resolved s).engine.previewPending = s.engine.previewPending := by
    rw [retire_engine (.inr rfl)]
  rcases work with ⟨o, aligned, sky, work⟩ | work
  · rw [holdStop_merging job work]
    exact ⟨retire_results .., retired aligned⟩
  · rw [holdStop_darkMerging job work, freeEngine_eq]
    exact ⟨(giveUpMergeTarget_results _).trans (retire_results ..),
      (congrArg (·.previewPending) (giveUpMergeTarget_engine _)).trans (retired false)⟩

end

theorem engineHold_keeps {s : State} (none : s.engine.previewPending = false) :
    (engineHold s).engine.previewPending = false ∧ (engineHold s).results = s.results := by
  have merge {i : Fin 6} (job : s.engine.job = .descriptor i)
      (work : (∃ o aligned sky, s.engine.work = .merging o aligned sky) ∨ s.engine.work = .darkMerging) :
      (holdStop s).engine.previewPending = false ∧ (holdStop s).results = s.results := by
    obtain ⟨results, pending⟩ := holdStop_merge_keeps job work
    exact ⟨pending.trans none, results⟩
  unfold engineHold
  rw [none, if_neg Bool.false_ne_true]
  dsimp only
  split
  · exact ⟨none, rfl⟩
  · exact ⟨none, rfl⟩
  · next job _ =>
    split
    · next work =>
      split_ifs
      exacts [merge job (.inl ⟨_, _, _, work⟩), ⟨none, rfl⟩]
    · next work =>
      split_ifs
      exacts [merge job (.inr work), ⟨none, rfl⟩]
    · exact ⟨none, rfl⟩
  · exact ⟨none, rfl⟩

/-- A preview still pending is dropped by a hold (R134). -/
theorem engineHold_previewPending {s : State} (pending : s.engine.previewPending = true) :
    (engineHold s).engine.previewPending = false ∧
      (engineHold s).results = { s.results with lastPreviewEnd := some .droppedHold } := by
  rw [engineHold_previewDropped]
  obtain ⟨none, results⟩ := engineHold_keeps (s := previewDropped s) rfl
  exact ⟨none, results.trans (if_pos pending)⟩

/-! ## The hold entry -/

/-- The responses that wait for a bulk read answered HELD (R157). -/
def responsesHeld (s : State) : State := (s.onPLink LinkState.heldBulk).onSLink LinkState.heldBulk

theorem enterHold_eq (s : State) : enterHold s =
    if s.power.state = .doze then raise .powerState (responsesHeld (engineHold (heldButEngine s)))
    else responsesHeld (engineHold (heldButEngine s)) := by
  have begun : raise .holdChanged ((s.onLines fun l => { l with pfWarn := true }).onPower fun p => { p with
      state := .hold, changing := !(s.power.state == .doze)
      reserveTimer := some (later (s.onLines fun l => { l with pfWarn := true }).now
        (1000 * (s.onLines fun l => { l with pfWarn := true }).session.holdReserve)) }) = holdBegun s := rfl
  simp only [enterHold, begun, beq_iff_eq, heldButEngine, responsesHeld]

theorem enterHold_components (s : State) :
    (enterHold s).session = (engineHold (heldButEngine s)).session ∧
    (enterHold s).ring = (engineHold (heldButEngine s)).ring ∧
    (enterHold s).engine = (engineHold (heldButEngine s)).engine ∧
    (enterHold s).results = (engineHold (heldButEngine s)).results ∧
    (enterHold s).darks = (engineHold (heldButEngine s)).darks ∧
    (enterHold s).power = (engineHold (heldButEngine s)).power ∧
    (enterHold s).seq = (engineHold (heldButEngine s)).seq ∧
    (enterHold s).lines = (engineHold (heldButEngine s)).lines ∧
    (enterHold s).port = (engineHold (heldButEngine s)).port := by
  rw [enterHold_eq]
  generalize engineHold (heldButEngine s) = t
  split_ifs <;> exact ⟨rfl, rfl, rfl, rfl, rfl, rfl, rfl, rfl, rfl⟩

theorem heldBulk_pendingSet (l : LinkState) : l.heldBulk.pendingSet = l.pendingSet := by
  unfold LinkState.heldBulk
  split <;> rfl

theorem heldBulk_response {l : LinkState} {r : Response} {b : BulkRead} (h : l.response = some ⟨r, some b⟩) :
    l.heldBulk.response = some ⟨{ r with outcome := .held, fields := [], payload := [] }, none⟩ := by
  simp only [LinkState.heldBulk, h]

/-- What is pending before the responses are held is pending after the hold entry. -/
theorem enterHold_pending {s : State} {k : Nat} :
    ((engineHold (heldButEngine s)).pLink.pendingSet.getLsbD k = true → (enterHold s).pLink.pendingSet.getLsbD k = true) ∧
    ((engineHold (heldButEngine s)).sLink.pendingSet.getLsbD k = true → (enterHold s).sLink.pendingSet.getLsbD k = true) := by
  rw [enterHold_eq]
  generalize engineHold (heldButEngine s) = t
  have held (l : LinkState) (h : l.pendingSet.getLsbD k = true) : l.heldBulk.pendingSet.getLsbD k = true := by
    rwa [heldBulk_pendingSet]
  split_ifs
  · exact ⟨fun h => raised_pending .powerState (held t.pLink h), fun h => raised_pending .powerState (held t.sLink h)⟩
  · exact ⟨held t.pLink, held t.sLink⟩

theorem exec_holdEntry {s : State} (ready : s.holdReady = true) : exec .holdEntry s = .next (enterHold s) :=
  congrArg _ (if_pos ready)

/-- The condition of the hold but for PF_WARN (R148). -/
theorem holdReady_of {s : State} (state : s.power.state = .active ∨ s.power.state = .doze)
    (settled : s.power.changing = false)
    (keep : s.session.state ∉ [.idle, .lost] ∨ ∃ k : Fin 4, s.darks.slots[k].state ≠ .empty) : s.holdReady = true := by
  have toKeep : s.somethingToKeep = true := by
    rw [State.somethingToKeep, Bool.or_eq_true, Bool.not_eq_true', ← Bool.not_eq_true, idleOrLost_iff]
    refine keep.imp (fun other either => other (by simpa using either)) fun ⟨k, held⟩ => ?_
    rw [← Option.ne_none_iff_isSome]
    intro none
    exact absurd (List.find?_eq_none.mp none k (List.mem_finRange k)) (by simpa using held)
  rcases state with h | h <;> simp [State.holdReady, h, settled, toKeep]

section
variable {s : State}

theorem heldButEngine_notDoze (s : State) : (heldButEngine s).power.state ≠ .doze := by
  rw [(heldButEngine_items s).1]
  nofun

theorem heldButEngine_not_draining (notDraining : s.session.state ≠ .draining) :
    (heldButEngine s).session.state ≠ .draining := by
  obtain ⟨runs, stays⟩ := heldButEngine_session s
  cases running : s.running with
  | true =>
    rw [(runs running).1]
    nofun
  | false => rwa [(stays running notDraining).1]

/-- Whether a hold with no job in the engine asks it or not, the ring, the account and the library stay (R121). -/
theorem engineHold_noJob_keeps (job : s.engine.job = .none) : (engineHold s).session = s.session ∧
    (engineHold s).ring = s.ring ∧ (engineHold s).darks = s.darks ∧
    (engineHold s).engine.finishPending = s.engine.finishPending := by
  by_cases stop : s.engine.stop = .close
  · rw [engineHold_of_close stop]
    exact ⟨rfl, rfl, rfl, rfl⟩
  · rw [engineHold_of_noJob stop job]
    exact ⟨rfl, rfl, rfl, rfl⟩

theorem reading_of_ring {s t : State} (ring : t.ring = s.ring) : t.reading = s.reading := by
  rw [State.reading, ring]
  rfl

theorem reading_retire_of_none {o : SubOutcome} (h : o = .rejected .abandoned ∨ o = .partialMerge) (i : Fin 6)
    (resolved : Bool) (noReading : s.reading = none) : (retire i o resolved s).reading = none := by
  rw [State.reading_none_iff] at noReading ⊢
  intro j
  rw [retire_of_stop h, drainCheck_ring]
  by_cases own : j = i
  · rw [own, (retireRecord_desc ..).1]
    nofun
  · rw [(retireRecord_desc ..).2 j own]
    exact noReading j

/-! Which sub the hold retires, if any. -/

theorem heldButEngine_of_neither (phase : s.seq.phase ≠ .exposing) (reading : s.reading = none) :
    heldButEngine s = sessionHold (portIdle (sequencerIdle (linesReleased (holdBegun s)))) := by
  rw [heldButEngine, sequencerHold_of_not_exposing (by exact phase), portHold_of_none (by exact reading)]

theorem heldButEngine_of_exposing {c : CurrentExposure} (phase : s.seq.phase = .exposing)
    (current : s.seq.current = some c) (reading : s.reading = none) : heldButEngine s = sessionHold (portIdle
      (sequencerIdle (retire c.index (.rejected .abandoned) false (linesReleased (holdBegun s))))) := by
  have none : (sequencerIdle (retire c.index (.rejected .abandoned) false (linesReleased (holdBegun s)))).reading = none :=
    reading_retire_of_none (s := linesReleased (holdBegun s)) (.inl rfl) c.index false reading
  rw [heldButEngine, sequencerHold_of_exposing (by exact phase) (by exact current), portHold_of_none none]

theorem heldButEngine_of_reading {i : Fin 6} (phase : s.seq.phase ≠ .exposing) (reading : s.reading = some i) :
    heldButEngine s = sessionHold (portIdle
      (retire i (.rejected .abandoned) false (sequencerIdle (linesReleased (holdBegun s))))) := by
  rw [heldButEngine, sequencerHold_of_not_exposing (by exact phase), portHold_of_reading (by exact reading)]

theorem sessionHold_totals (s : State) : (sessionHold s).session.totals = s.session.totals := by
  unfold sessionHold
  split_ifs <;> rfl

/-- A sub that a hold abandons is the record's last retired one, and counts as abandoned (R26, R47, R58). -/
theorem heldButEngine_record {i : Fin 6} {x : State} (ring : x.ring = s.ring)
    (totals : x.session.totals = s.session.totals)
    (h : (heldButEngine s).ring = (retire i (.rejected .abandoned) false x).ring ∧
      (heldButEngine s).session.totals = (retire i (.rejected .abandoned) false x).session.totals) :
    (heldButEngine s).ring = { s.ring with
      desc := s.ring.desc.set i { s.ring.desc[i] with state := .retired, outcome := some (.rejected .abandoned) }
      lastRetired := s.ring.desc[i].sub } ∧
    (heldButEngine s).session.totals =
      { s.session.totals with rejectedAbandoned := s.session.totals.rejectedAbandoned + 1 } := by
  obtain ⟨ringRetired, totalsRetired⟩ := h
  rw [ringRetired, totalsRetired, retire_ring (.inl rfl), retire_totals (.inl rfl), ring, totals]
  exact ⟨rfl, rfl⟩

theorem heldButEngine_record_exposing {c : CurrentExposure} (phase : s.seq.phase = .exposing)
    (current : s.seq.current = some c) (reading : s.reading = none) :
    (heldButEngine s).ring = { s.ring with
      desc := s.ring.desc.set c.index
        { s.ring.desc[c.index] with state := .retired, outcome := some (.rejected .abandoned) }
      lastRetired := s.ring.desc[c.index].sub } ∧
    (heldButEngine s).session.totals =
      { s.session.totals with rejectedAbandoned := s.session.totals.rejectedAbandoned + 1 } := by
  refine heldButEngine_record (x := linesReleased (holdBegun s)) rfl rfl ?_
  rw [heldButEngine_of_exposing phase current reading, sessionHold_ring, sessionHold_totals]
  exact ⟨rfl, rfl⟩

theorem heldButEngine_record_reading {i : Fin 6} (phase : s.seq.phase ≠ .exposing) (reading : s.reading = some i) :
    (heldButEngine s).ring = { s.ring with
      desc := s.ring.desc.set i { s.ring.desc[i] with state := .retired, outcome := some (.rejected .abandoned) }
      lastRetired := s.ring.desc[i].sub } ∧
    (heldButEngine s).session.totals =
      { s.session.totals with rejectedAbandoned := s.session.totals.rejectedAbandoned + 1 } := by
  refine heldButEngine_record (x := sequencerIdle (linesReleased (holdBegun s))) rfl rfl ?_
  rw [heldButEngine_of_reading phase reading, sessionHold_ring, sessionHold_totals]
  exact ⟨rfl, rfl⟩

theorem sessionHold_of_not_running {x : State} (h : x.running = false) : sessionHold x = x :=
  if_neg (Bool.eq_false_iff.mp h)

/-- A session that drains is not paused by a hold (R18). -/
theorem sessionHold_of_draining {x : State} (h : x.session.state = .draining ∨ x.session.state = .finishing) :
    sessionHold x = x :=
  sessionHold_of_not_running (by rcases h with h | h <;> simp [State.running, h])

/-- A drain whose last sub in flight a hold retires goes on to FINISHING, and any other stays (R13, R18). -/
theorem drain_of_retire {x : State} {i : Fin 6} (notDoze : x.power.state ≠ .doze) (draining : x.session.state = .draining) :
    (∀ j : Fin 6, j ≠ i → x.ring.desc[j].inFlight = true →
      (retire i (.rejected .abandoned) false x).session.state = .draining) ∧
    ((∀ j : Fin 6, j ≠ i → x.ring.desc[j].inFlight = false) →
      (retire i (.rejected .abandoned) false x).session.state = .finishing ∧
      (retire i (.rejected .abandoned) false x).engine.finishPending = true) := by
  obtain ⟨finishes, stays⟩ := limitsDrainAndDrainsFinish.2 i (.rejected .abandoned) false x draining
  refine ⟨fun j other inFlight => ?_, fun drained => ?_⟩
  · rw [stays ⟨j, other, inFlight⟩]
    exact draining
  · rw [finishes drained, wake_of_not_doze _ (by exact notDoze)]
    exact ⟨rfl, rfl⟩

/-- The drain at a hold that retires sub `i`, in whose stage `x` it does so. -/
theorem heldButEngine_drain {x y : State} {i : Fin 6} (notDoze : x.power.state ≠ .doze)
    (draining : x.session.state = .draining) (ring : x.ring = s.ring)
    (held : heldButEngine s = sessionHold y)
    (session : y.session = (retire i (.rejected .abandoned) false x).session)
    (engine : y.engine = (retire i (.rejected .abandoned) false x).engine) :
    (∀ j : Fin 6, j ≠ i → s.ring.desc[j].inFlight = true → (heldButEngine s).session.state = .draining) ∧
    ((∀ j : Fin 6, j ≠ i → s.ring.desc[j].inFlight = false) → (heldButEngine s).session.state = .finishing ∧
      (heldButEngine s).engine.finishPending = true) := by
  obtain ⟨stays, finishes⟩ := drain_of_retire (i := i) notDoze draining
  rw [ring] at stays finishes
  rw [held]
  refine ⟨fun j other inFlight => ?_, fun drained => ?_⟩
  · have state : y.session.state = .draining := by rw [session, stays j other inFlight]
    rwa [sessionHold_of_draining (.inl state)]
  · obtain ⟨state, finish⟩ := finishes drained
    have state' : y.session.state = .finishing := by rw [session, state]
    rw [sessionHold_of_draining (.inr state')]
    exact ⟨state', by rw [engine, finish]⟩

/-- A merge with no tile done, in a part that does not drain, retires PARTIAL at the hold entry (R121). -/
theorem engineHold_stopped {i : Fin 6} {o : SubOutcome} {aligned : Bool} {sky : Option Transform}
    (notDraining : s.session.state ≠ .draining) (stop : s.engine.stop = .none) (job : s.engine.job = .descriptor i)
    (work : s.engine.work ∈ [.merging o aligned sky, .darkMerging]) (start : s.engine.tilesDone = 0) :
    ∃ resolved, engineHold s = freeEngine (if s.engine.work = .darkMerging then
        giveUpMergeTarget (retireRecord i .partialMerge resolved (previewDropped s))
      else clearInUse (retireRecord i .partialMerge resolved (previewDropped s))) := by
  rw [engineHold_of_merge stop job work, if_pos start]
  simp only [List.mem_cons, List.not_mem_nil, or_false] at work
  rcases work with h | h
  · refine ⟨aligned, ?_⟩
    rw [holdStop_merging (by exact job) (by exact h), retire_of_stop_not_draining (.inr rfl) i aligned (by exact notDraining),
      if_neg (by simp [h])]
  · refine ⟨false, ?_⟩
    rw [holdStop_darkMerging (by exact job) (by exact h), retire_of_stop_not_draining (.inr rfl) i false (by exact notDraining),
      if_pos h]

theorem giveUpMergeTarget_of_some {k : Fin 4} (target : s.darks.mergeTarget = some k) : giveUpMergeTarget s =
    { s with darks := { s.darks with
      slots := s.darks.slots.set k DarkSlot.emptied, useOrder := s.darks.useOrder.erase k, mergeTarget := none } } := by
  simp only [giveUpMergeTarget, target]
  rfl

/-- What a merge stopped at its start leaves (R96, R121). -/
theorem engineHold_stopped_items {i : Fin 6} {o : SubOutcome} {aligned : Bool} {sky : Option Transform}
    (notDraining : s.session.state ≠ .draining) (stop : s.engine.stop = .none) (job : s.engine.job = .descriptor i)
    (work : s.engine.work ∈ [.merging o aligned sky, .darkMerging]) (start : s.engine.tilesDone = 0) :
    (engineHold s).engine =
      { s.engine with job := .none, work := .none, tilesDone := 0, stop := .none, previewPending := false } ∧
    (engineHold s).ring = { s.ring with
      desc := s.ring.desc.set i { s.ring.desc[i] with state := .retired, outcome := some .partialMerge }
      lastRetired := s.ring.desc[i].sub } ∧
    (engineHold s).session.totals = s.session.totals ∧
    (engineHold s).pLink.pendingSet.getLsbD 5 = true ∧ (engineHold s).sLink.pendingSet.getLsbD 5 = true ∧
    (s.engine.work = .merging o aligned sky → (engineHold s).darks = { s.darks with inUse := none }) ∧
    (∀ k, s.engine.work = .darkMerging → s.darks.mergeTarget = some k → (engineHold s).darks = { s.darks with
      slots := s.darks.slots.set k DarkSlot.emptied, useOrder := s.darks.useOrder.erase k, mergeTarget := none }) := by
  obtain ⟨resolved, e⟩ := engineHold_stopped notDraining stop job work start
  obtain ⟨bitP, bitS⟩ := raise_pending (e := .subRetired) (k := 5) (by decide) (previewDropped s)
  rw [e]
  by_cases dark : s.engine.work = .darkMerging
  · rw [if_pos dark]
    refine ⟨?_, (giveUpMergeTarget_ring _).trans rfl, (congrArg (·.totals) (giveUpMergeTarget_session _)).trans rfl, ?_, ?_,
      fun light => absurd (dark.symm.trans light) nofun, fun k _ target => ?_⟩
    · rw [freeEngine_eq]
      dsimp only
      rw [giveUpMergeTarget_engine]
      rfl
    · exact (congrArg (fun l : LinkState => l.pendingSet.getLsbD 5) (giveUpMergeTarget_pLink _)).trans bitP
    · exact (congrArg (fun l : LinkState => l.pendingSet.getLsbD 5) (giveUpMergeTarget_sLink _)).trans bitS
    · rw [giveUpMergeTarget_of_some (by exact target)]
      rfl
  · rw [if_neg dark]
    exact ⟨rfl, rfl, rfl, bitP, bitS, fun _ => rfl, fun k h => absurd h dark⟩

theorem engineHold_of_close_items (stop : s.engine.stop = .close) :
    (engineHold s).engine.stop = .close ∧ (engineHold s).engine.job = s.engine.job := by
  rw [engineHold_of_close stop]
  exact ⟨stop, rfl⟩

end

/-! ## A tile that ends under a stop (R121) -/

section
variable {s : State}

/-- A job with a tile left, and a measurement, stop at the end of the tile in progress (R121). -/
theorem exec_engineTileComplete_hold (active : s.power.memory = .active) (stop : s.engine.stop = .hold)
    (left : s.engine.tilesDone + 1 < s.tileCount) (job : s.engine.job ≠ .none)
    (work : (tileWork (FinishedImage.granted s)).engine = (FinishedImage.granted s).engine)
    (port : (tileWork (FinishedImage.granted s)).port = s.port) :
    ∃ n, exec .engineTileComplete s =
      .next (holdStop ((tileWork (FinishedImage.granted s)).onEngine fun e => { e with tilesDone := n })) := by
  have awake : s.memoryAwake = true := by simp [State.memoryAwake, active]
  have onTile : s.onTile = true := by
    have notOver : s.tilesOver = false := by simp [State.tilesOver]; omega
    simp [State.onTile, job, stop, notOver]
  have served : whenServed .engine completeTile s = completeTile (FinishedImage.granted s) := whenServed_engine _ awake
  have step : exec .engineTileComplete s = .next (completeTile (FinishedImage.granted s)) := by
    change execEngineTileComplete s = _
    rw [execEngineTileComplete, served]
    simp [onTile, stop]
  have measures : (tileWork (FinishedImage.granted s)).measuring = s.measuring := by
    rw [State.measuring, work]
    rfl
  have counted : countTile (tileWork (FinishedImage.granted s)) = (tileWork (FinishedImage.granted s)).onEngine fun e =>
      { e with tilesDone := if s.measuring = true then 0 else s.engine.tilesDone + 1 } := by
    rw [countTile, measures]
    simp only [State.onEngine, work]
    rfl
  refine ⟨if s.measuring = true then 0 else s.engine.tilesDone + 1, step.trans (congrArg _ ?_)⟩
  rw [completeTile, counted]
  refine if_pos ?_
  have stops : ((tileWork (FinishedImage.granted s)).onEngine fun e =>
      { e with tilesDone := if s.measuring = true then 0 else s.engine.tilesDone + 1 }).engine.stop = .hold := by
    simp only [State.onEngine, work]
    exact stop
  rw [stops]
  cases measuring : s.measuring with
  | true =>
    have still : ((tileWork (FinishedImage.granted s)).onEngine fun e =>
        { e with tilesDone := if true = true then 0 else s.engine.tilesDone + 1 }).measuring = true :=
      measures.trans measuring
    rw [still]
    rfl
  | false =>
    have notOver : ((tileWork (FinishedImage.granted s)).onEngine fun e =>
        { e with tilesDone := if false = true then 0 else s.engine.tilesDone + 1 }).tilesOver = false := by
      simp only [State.tilesOver, State.onEngine, State.tileCount, port, Bool.false_eq_true, if_false,
        decide_eq_false_iff_not, not_le]
      exact left
    rw [notOver, Bool.not_false, Bool.or_true]
    rfl

theorem tileWork_clear (job : s.engine.job = .planeClear) : tileWork s = clearOneTile s.engine.tilesDone s := by
  simp [tileWork, job]

/-- A merged tile of a light changes the memory, the ring and the account alone (R114). -/
theorem mergeOneTile_changes (i : Fin 6) (sky : Option Transform) (t : Nat) (s : State) : ∃ dram ring session,
    mergeOneTile i sky t s = { s with dram := dram, ring := ring, session := session } ∧
      session.state = s.session.state := by
  unfold mergeOneTile
  dsimp only
  generalize Light.mergeTile _ _ _ _ _ = acc
  exact ⟨_, _, _, rfl, rfl⟩

/-- What a light's merge stopped under way leaves (R121). -/
theorem stopped_merging (i : Fin 6) (aligned : Bool) (x : State) :
    let t := freeEngine (clearInUse (retireRecord i .partialMerge aligned x))
    t.engine.job = .none ∧ t.engine.stop = .none ∧ t.ring.desc[i].state = .retired ∧
      t.ring.desc[i].outcome = some .partialMerge ∧ t.darks = { x.darks with inUse := none } ∧
      t.guidance = x.guidance ∧ t.seq = x.seq ∧ t.power = x.power := by
  have own := (retireRecord_desc i .partialMerge aligned x).1
  exact ⟨rfl, rfl, congrArg (·.state) own, congrArg (·.outcome) own, rfl, rfl, rfl, rfl⟩

/-- What a dark's merge stopped under way leaves (R96, R121). -/
theorem stopped_darkMerging (i : Fin 6) {k : Fin 4} {x : State} (target : x.darks.mergeTarget = some k) :
    let t := freeEngine (giveUpMergeTarget (retireRecord i .partialMerge false x))
    t.engine.job = .none ∧ t.engine.stop = .none ∧ t.ring.desc[i].state = .retired ∧
      t.ring.desc[i].outcome = some .partialMerge ∧ t.darks = { x.darks with
        slots := x.darks.slots.set k DarkSlot.emptied, useOrder := x.darks.useOrder.erase k, mergeTarget := none } ∧
      t.session.totals = x.session.totals ∧ t.guidance = x.guidance ∧ t.seq = x.seq ∧ t.power = x.power := by
  have own := (retireRecord_desc i .partialMerge false x).1
  rw [giveUpMergeTarget_of_some (by exact target)]
  exact ⟨rfl, rfl, congrArg (·.state) own, congrArg (·.outcome) own, rfl, rfl, rfl, rfl, rfl⟩

/-- A merged tile of a dark changes the sums of its slot alone (R95). -/
theorem darkOneTile_changes (i : Fin 6) (t : Nat) {k : Fin 4} (target : s.darks.mergeTarget = some k) : ∃ sums,
    darkOneTile i t s = { s with dram := { s.dram with darkSums := sums } } := by
  simp only [darkOneTile, target]
  exact ⟨_, rfl⟩

theorem tileWork_measuring {i : Fin 6} {aligned : Bool} {c : Option (Calibration × Option (Fin 4))}
    (job : s.engine.job = .descriptor i) (work : s.engine.work = .measuring aligned c) : tileWork s = s := by
  simp [tileWork, job, work]

theorem tileWork_merging {i : Fin 6} {o : SubOutcome} {aligned : Bool} {sky : Option Transform}
    (job : s.engine.job = .descriptor i) (work : s.engine.work = .merging o aligned sky) :
    tileWork s = mergeOneTile i sky s.engine.tilesDone s := by
  simp [tileWork, job, work]

theorem tileWork_darkMerging {i : Fin 6} (job : s.engine.job = .descriptor i) (work : s.engine.work = .darkMerging) :
    tileWork s = darkOneTile i s.engine.tilesDone s := by
  simp [tileWork, job, work]

end

/-- Settles O55. -/
theorem theHoldEntryPausesARunningSession : Obligations.TheHoldEntryPausesARunningSession := by
  refine ⟨fun s active settled running phase reading noJob noPreview => ?_, fun s state settled keep => ?_,
    fun s active stop left => ?_⟩
  · have notIdle : s.session.state ∉ [.idle, .lost] := by
      rcases (running_iff s).mp running with h | h <;> rw [h] <;> decide
    have ready : s.holdReady = true := holdReady_of (.inl active) settled (.inl notIdle)
    have frames := stops_engineHold (heldButEngine_notDoze s)
    obtain ⟨power, seq, lines, -, engine, -, darks, -⟩ := heldButEngine_items s
    obtain ⟨sessionT, ringT, -, -, darksT, powerT, seqT, linesT, -⟩ := enterHold_components s
    obtain ⟨bitP, bitS⟩ := raised_of_holdBegun s
    obtain ⟨session, ring, library, -⟩ := engineHold_noJob_keeps (s := heldButEngine s) (by rw [engine]; exact noJob)
    have neither : heldButEngine s = enterPaused .hold (portIdle (sequencerIdle (linesReleased (holdBegun s)))) :=
      (heldButEngine_of_neither (by rw [phase]; nofun) reading).trans (if_pos (by exact running))
    have changing : (!(s.power.state == .doze)) = true := by rw [active]; rfl
    refine ⟨⟨_, exec_holdEntry ready, ?_, ?_, ?_, ?_, ?_, ?_, by simp, by simp, ?_,
      enterHold_pending.1 (frames.pendingP 14 bitP), enterHold_pending.2 (frames.pendingS 14 bitS)⟩, fun low => ?_⟩
    · rw [powerT, frames.power, power, ← changing]
      rfl
    · rw [sessionT, session, neither]
      rfl
    · rw [seqT, frames.seq, seq]
      rfl
    · rw [seqT, frames.seq, seq]
      rfl
    · rw [linesT, frames.lines, lines]
    · rw [ringT, ring, neither]
      rfl
    · rw [darksT, library, darks]
    · rw [exec_holdEntry ready]
      change execPfWarnLineChange true s = _
      simp [execPfWarnLineChange, low, pfWarnChanges, ready]
  · have frames := stops_engineHold (heldButEngine_notDoze s)
    obtain ⟨power, seq, lines, port, engine, results, darks, response⟩ := heldButEngine_items s
    obtain ⟨sessionT, ringT, engineT, resultsT, darksT, powerT, seqT, linesT, portT⟩ := enterHold_components s
    obtain ⟨bitP, bitS⟩ := raised_of_holdBegun s
    obtain ⟨runs, stays⟩ := heldButEngine_session s
    have job : (heldButEngine s).engine.job = s.engine.job := by rw [engine]
    have stop : (heldButEngine s).engine.stop = s.engine.stop := by rw [engine]
    have noJobKeeps (h : s.engine.job = .none) := engineHold_noJob_keeps (s := heldButEngine s) (job.trans h)
    refine ⟨_, exec_holdEntry (holdReady_of state settled keep), ?_, fun running => ?_, fun other => ?_,
      fun other phase reading noJob => ?_, fun c draining phase current reading noJob => ?_,
      fun i draining phase reading noJob => ?_, ?_, ?_, ?_, fun c phase current reading noJob => ?_,
      fun i phase reading noJob => ?_, fun pending => ?_, fun notDraining noStop planeJob => ?_,
      fun i aligned c notDraining noStop descriptor work => ?_,
      fun i o aligned sky notDraining noStop descriptor work begun => ?_,
      fun i o aligned sky notDraining phase reading noStop descriptor work start => ?_, fun close someJob => ?_,
      fun r b waits => ?_, by simp, by simp, by simp, enterHold_pending.1 (frames.pendingP 14 bitP),
      enterHold_pending.2 (frames.pendingS 14 bitS), fun doze => ?_⟩
    · have changing : (!(s.power.state == .doze)) = decide (s.power.state = .active) := by
        rcases state with h | h <;> rw [h] <;> rfl
      rw [powerT, frames.power, power, ← changing]
      rfl
    · obtain ⟨paused, cause⟩ := runs ((running_iff s).mpr (by simpa using running))
      obtain ⟨sameState, sameCause⟩ := frames.session (by rw [paused]; nofun)
      rw [sessionT, sameState, sameCause]
      exact ⟨paused, cause⟩
    · simp only [List.mem_cons, List.not_mem_nil, or_false, not_or] at other
      obtain ⟨notReferencing, notIntegrating, notDraining⟩ := other
      have stopped : s.running = false := by simp [State.running, notReferencing, notIntegrating]
      obtain ⟨sameState, sameCause⟩ := frames.session (heldButEngine_not_draining notDraining)
      obtain ⟨kept, keptCause⟩ := stays stopped notDraining
      rw [sessionT, sameState, sameCause, kept, keptCause]
      exact ⟨rfl, rfl⟩
    · have stopped : s.running = false := Bool.eq_false_iff.mpr fun h => other (by simpa using (running_iff s).mp h)
      obtain ⟨session, ring, -⟩ := noJobKeeps noJob
      rw [sessionT, ringT, session, ring, heldButEngine_of_neither phase reading,
        sessionHold_of_not_running (by exact stopped)]
      exact ⟨rfl, rfl⟩
    · obtain ⟨session, -, -, finish⟩ := noJobKeeps noJob
      rw [sessionT, engineT, session, finish]
      exact heldButEngine_drain (x := linesReleased (holdBegun s)) (by nofun) draining rfl
        (heldButEngine_of_exposing phase current reading) rfl rfl
    · obtain ⟨session, -, -, finish⟩ := noJobKeeps noJob
      rw [sessionT, engineT, session, finish]
      exact heldButEngine_drain (x := sequencerIdle (linesReleased (holdBegun s))) (by nofun) draining rfl
        (heldButEngine_of_reading phase reading) rfl rfl
    · rw [seqT, frames.seq, seq]
      rfl
    · rw [linesT, frames.lines, lines]
    · rw [portT, engineHold_port, port, portIdle]
      dsimp only
      cases s.port.reception <;> rfl
    · obtain ⟨session, ring, -⟩ := noJobKeeps noJob
      rw [ringT, sessionT, session, ring]
      exact heldButEngine_record_exposing phase current reading
    · obtain ⟨session, ring, -⟩ := noJobKeeps noJob
      rw [ringT, sessionT, session, ring]
      exact heldButEngine_record_reading phase reading
    · obtain ⟨dropped, ended⟩ := engineHold_previewPending (s := heldButEngine s) (by rw [engine]; exact pending)
      rw [engineT, resultsT, dropped, ended, results]
      exact ⟨rfl, rfl⟩
    · rw [engineT, engineHold_of_planeJob (stop.trans noStop) (by rw [job]; exact planeJob), askedToStop, previewDropped,
        heldButEngine_engine notDraining]
    · have same := heldButEngine_engine notDraining
      rw [engineT, engineHold_of_measuring (stop.trans noStop) (job.trans descriptor) (by rw [same]; exact work), askedToStop,
        previewDropped, same]
    · have same := heldButEngine_engine notDraining
      rw [engineT, darksT, engineHold_of_merge (stop.trans noStop) (job.trans descriptor) (by rw [same]; exact work),
        if_neg (by rw [same]; omega), askedToStop, previewDropped, same, darks]
      exact ⟨rfl, rfl⟩
    · have same := heldButEngine_engine notDraining
      have neither := heldButEngine_of_neither phase reading
      have ring : (heldButEngine s).ring = s.ring := by rw [neither, sessionHold_ring]; rfl
      have totals : (heldButEngine s).session.totals = s.session.totals := by rw [neither, sessionHold_totals]; rfl
      obtain ⟨engineS, ringS, totalsS, pS, sS, lightS, darkS⟩ := engineHold_stopped_items
        (heldButEngine_not_draining notDraining) (stop.trans noStop) (job.trans descriptor) (by rw [same]; exact work)
        (by rw [same]; exact start)
      rw [engineT, ringT, sessionT, darksT, engineS, ringS, totalsS, same, ring, totals]
      rw [same, darks] at lightS darkS
      exact ⟨rfl, rfl, rfl, enterHold_pending.1 pS, enterHold_pending.2 sS, lightS, darkS⟩
    · obtain ⟨close', job'⟩ := engineHold_of_close_items (s := heldButEngine s) (stop.trans close)
      rw [engineT, close', job', job]
      exact ⟨rfl, rfl⟩
    · have waiting : (engineHold (heldButEngine s)).pLink.response = some ⟨r, some b⟩ := by
        rw [frames.response, response, waits]
      rw [enterHold_eq]
      split_ifs
      · exact heldBulk_response waiting
      · exact heldBulk_response waiting
    · rw [enterHold_eq, if_pos doze]
      exact raise_pending (by decide) _
  · have idle {j : Job} (job : s.engine.job = j) (some : j ≠ .none) : s.engine.job ≠ .none := by rwa [job]
    refine ⟨fun job => ?_, fun job => ?_, fun note job work => ?_, fun i aligned c job work => ?_,
      fun i o aligned sky job work notDraining => ?_, fun i k job work target notDraining => ?_⟩
    · have worked := tileWork_clear (s := FinishedImage.granted s) job
      obtain ⟨n, step⟩ := exec_engineTileComplete_hold active stop left (idle job nofun) (by rw [worked]; rfl)
        (by rw [worked]; rfl)
      rw [worked] at step
      rw [holdStop_clear (by exact job)] at step
      exact ⟨_, step, by dsimp only [freeEngine, clearOneTile, FinishedImage.granted, State.onEngine, State.onDram, jobEnded]⟩
    · have worked := FinishedImage.tileWork_finish (s := FinishedImage.granted s) job
      obtain ⟨n, step⟩ := exec_engineTileComplete_hold active stop left (idle job nofun) (by rw [worked]; rfl)
        (by rw [worked]; rfl)
      rw [worked, holdStop_finish (by exact job)] at step
      exact ⟨_, step, by dsimp only [freeEngine, finishOneTile, FinishedImage.granted, State.onEngine, State.onDram, jobEnded]⟩
    · have worked := FinishedImage.tileWork_preview (s := FinishedImage.granted s) job work
      obtain ⟨n, step⟩ := exec_engineTileComplete_hold active stop left (idle job nofun) (by rw [worked]; rfl)
        (by rw [worked]; rfl)
      rw [worked, holdStop_preview (by exact job)] at step
      exact ⟨_, step, by dsimp only [freeEngine, previewOneTile, FinishedImage.granted, State.onEngine, State.onDram,
        State.onResults, jobEnded]⟩
    · have worked := tileWork_measuring (s := FinishedImage.granted s) job work
      obtain ⟨n, step⟩ := exec_engineTileComplete_hold active stop left (idle job nofun) (by rw [worked]) (by rw [worked]; rfl)
      rw [step, worked, holdStop_measuring (by exact job) (by exact work)]
      rfl
    · obtain ⟨memory, ring, session, merged, state⟩ := mergeOneTile_changes i sky s.engine.tilesDone (FinishedImage.granted s)
      have worked := (tileWork_merging (s := FinishedImage.granted s) job work).trans merged
      obtain ⟨n, step⟩ := exec_engineTileComplete_hold active stop left (idle job nofun) (by rw [worked]) (by rw [worked]; rfl)
      rw [worked, holdStop_merging (by exact job) (by exact work),
        retire_of_stop_not_draining (.inr rfl) i aligned (by exact fun h => notDraining (state.symm.trans h))] at step
      exact ⟨_, step, stopped_merging ..⟩
    · obtain ⟨sums, merged⟩ := darkOneTile_changes i s.engine.tilesDone (s := FinishedImage.granted s) target
      have worked := (tileWork_darkMerging (s := FinishedImage.granted s) job work).trans merged
      obtain ⟨n, step⟩ := exec_engineTileComplete_hold active stop left (idle job nofun) (by rw [worked]) (by rw [worked]; rfl)
      rw [worked, holdStop_darkMerging (by exact job) (by exact work),
        retire_of_stop_not_draining (.inr rfl) i false (by exact notDraining)] at step
      exact ⟨_, step, stopped_darkMerging i target⟩

end Sys2Proof.Proofs.HoldEntry
end

section
/-! PROOFS. The image blocks: windows and centroids, the Star Finder, the Star Measurer and the trimmed mean. -/

namespace Sys2Proof.Proofs.StarImages

open Sys2Proof.Machine Sys2Proof.Safety Sys2Proof.Proofs.SequencerSteps

-- The declarations are elaborated one after another, which keeps the check of the whole text within its memory.
set_option Elab.async false

/-! ## Windows (R79) -/

theorem inFrame_iff (l : Light) (i j : Int) : l.inFrame i j = true ↔
    0 ≤ i ∧ i < (l.width / 2 : Nat) ∧ 0 ≤ j ∧ j < (l.height / 2 : Nat) := by
  simp [Light.inFrame, and_assoc]

theorem intRange_eq (lo hi : Int) : intRange lo hi = (List.range (hi - lo + 1).toNat).map fun k : Nat => lo + k := by
  simp [intRange, ← List.map_eq_flatMap]

theorem mem_intRange {lo hi k : Int} : k ∈ intRange lo hi ↔ lo ≤ k ∧ k ≤ hi := by
  simp only [intRange_eq, List.mem_map, List.mem_range]
  constructor
  · rintro ⟨n, hn, rfl⟩
    omega
  · rintro ⟨low, high⟩
    exact ⟨(k - lo).toNat, by omega, by omega⟩

theorem pairwise_intRange (lo hi : Int) : (intRange lo hi).Pairwise (· < ·) := by
  rw [intRange_eq]
  exact List.pairwise_map.mpr (List.pairwise_lt_range.imp fun h => by omega)

theorem mem_windowCells {px py : Int} {rw : Nat} {c : Int × Int} : c ∈ windowCells px py rw ↔
    (windowLow px rw ≤ c.1 ∧ c.1 ≤ windowHigh px rw) ∧ windowLow py rw ≤ c.2 ∧ c.2 ≤ windowHigh py rw := by
  obtain ⟨i, j⟩ := c
  simp [windowCells, mem_intRange, and_comm]

theorem within_window_iff (p i : Int) (rw : Nat) :
    (windowLow p rw ≤ i ∧ i ≤ windowHigh p rw) ↔ |2 * i + 1 - p| ≤ rw := by
  rw [abs_le, windowLow, windowHigh]
  omega

/-- The row-major order of cells. -/
def rowMajor (a b : Int × Int) : Prop := a.2 < b.2 ∨ (a.2 = b.2 ∧ a.1 < b.1)

theorem rowMajor_asymm {a b : Int × Int} (h : rowMajor a b) : ¬rowMajor b a := by
  unfold rowMajor at *
  omega

theorem rowMajor_total {a b : Int × Int} (hab : ¬rowMajor a b) (hba : ¬rowMajor b a) : a = b := by
  unfold rowMajor at *
  ext <;> omega

theorem pairwise_windowCells (px py : Int) (rw : Nat) : (windowCells px py rw).Pairwise rowMajor := by
  rw [windowCells, List.pairwise_flatMap]
  refine ⟨fun j _ => List.pairwise_map.mpr ((pairwise_intRange _ _).imp fun h => Or.inr ⟨rfl, h⟩),
    (pairwise_intRange _ _).imp fun h a ha b hb => ?_⟩
  obtain ⟨_, _, rfl⟩ := List.mem_map.mp ha
  obtain ⟨_, _, rfl⟩ := List.mem_map.mp hb
  exact Or.inl h

/-- The ring of a window is its outermost columns and rows. -/
theorem onRing_iff {px py : Int} {rw : Nat} {c : Int × Int} (hc : c ∈ windowCells px py rw) :
    onRing px py rw c = true ↔
      (∀ d ∈ windowCells px py rw, c.1 ≤ d.1) ∨ (∀ d ∈ windowCells px py rw, d.1 ≤ c.1) ∨
      (∀ d ∈ windowCells px py rw, c.2 ≤ d.2) ∨ ∀ d ∈ windowCells px py rw, d.2 ≤ c.2 := by
  have cell : ∀ i j, (windowLow px rw ≤ i ∧ i ≤ windowHigh px rw) → (windowLow py rw ≤ j ∧ j ≤ windowHigh py rw) →
      (i, j) ∈ windowCells px py rw := fun i j hi hj => mem_windowCells.mpr ⟨hi, hj⟩
  obtain ⟨hi, hj⟩ := mem_windowCells.mp hc
  simp only [onRing, Bool.or_eq_true, beq_iff_eq, or_assoc]
  refine or_congr ⟨fun h d hd => ?_, fun h => ?_⟩ (or_congr ⟨fun h d hd => ?_, fun h => ?_⟩
    (or_congr ⟨fun h d hd => ?_, fun h => ?_⟩ ⟨fun h d hd => ?_, fun h => ?_⟩))
  · exact h ▸ (mem_windowCells.mp hd).1.1
  · exact le_antisymm (h _ (cell _ _ ⟨le_rfl, hi.1.trans hi.2⟩ hj)) hi.1
  · exact h ▸ (mem_windowCells.mp hd).1.2
  · exact le_antisymm hi.2 (h _ (cell _ _ ⟨hi.1.trans hi.2, le_rfl⟩ hj))
  · exact h ▸ (mem_windowCells.mp hd).2.1
  · exact le_antisymm (h _ (cell _ _ hi ⟨le_rfl, hj.1.trans hj.2⟩)) hj.1
  · exact h ▸ (mem_windowCells.mp hd).2.2
  · exact le_antisymm hj.2 (h _ (cell _ _ hi ⟨hj.1.trans hj.2, le_rfl⟩))

/-! ## The centroid (R79) -/

theorem firstGreatest_eq_none {α : Type} {key : α → Nat} {l : List α} (h : firstGreatest key l = none) : l = [] := by
  cases l with
  | nil => rfl
  | cons a rest =>
    simp only [firstGreatest] at h
    split at h
    · nomatch h
    · split at h <;> nomatch h

theorem firstGreatest_key {α : Type} {key : α → Nat} {b : α} {k : Nat} : ∀ {l : List α},
    firstGreatest key l = some (b, k) → k = key b
  | [], h => nomatch h
  | a :: rest, h => by
    simp only [firstGreatest] at h
    split at h
    · simp only [Option.some.injEq, Prod.mk.injEq] at h
      exact h.1 ▸ h.2.symm
    · rename_i c n chosen
      split at h
      · simp only [Option.some.injEq, Prod.mk.injEq] at h
        exact h.1 ▸ h.2 ▸ firstGreatest_key chosen
      · simp only [Option.some.injEq, Prod.mk.injEq] at h
        exact h.1 ▸ h.2.symm

/-- The element chosen is one of the greatest key, and those of equal key do not stand before it. -/
theorem firstGreatest_some {α : Type} {before : α → α → Prop} (asymm : ∀ a b, before a b → ¬before b a) {key : α → Nat}
    {b : α} {k : Nat} : ∀ {l : List α}, l.Pairwise before → firstGreatest key l = some (b, k) →
      b ∈ l ∧ ∀ d ∈ l, key d < key b ∨ (key d = key b ∧ ¬before d b)
  | [], _, h => nomatch h
  | a :: rest, sorted, h => by
    obtain ⟨first, sorted⟩ := List.pairwise_cons.mp sorted
    have self : ¬before a a := fun haa => asymm a a haa haa
    cases chosen : firstGreatest key rest with
    | none =>
      obtain rfl := firstGreatest_eq_none chosen
      simp only [firstGreatest, Option.some.injEq, Prod.mk.injEq] at h
      obtain ⟨rfl, -⟩ := h
      simp [self]
    | some x =>
      obtain ⟨c, n⟩ := x
      obtain ⟨mem, greatest⟩ := firstGreatest_some asymm sorted chosen
      have keyed : n = key c := firstGreatest_key chosen
      simp only [firstGreatest, chosen] at h
      split at h
      · rename_i less
        simp only [Option.some.injEq, Prod.mk.injEq] at h
        obtain ⟨rfl, -⟩ := h
        refine ⟨List.mem_cons_of_mem _ mem, fun d hd => ?_⟩
        rcases List.mem_cons.mp hd with rfl | hd
        · exact Or.inl (keyed ▸ less)
        · exact greatest d hd
      · rename_i notLess
        simp only [Option.some.injEq, Prod.mk.injEq] at h
        obtain ⟨rfl, -⟩ := h
        refine ⟨List.mem_cons_self, fun d hd => ?_⟩
        rcases List.mem_cons.mp hd with rfl | hd
        · exact Or.inr ⟨rfl, self⟩
        · have := greatest d hd
          rcases Nat.lt_or_ge (key d) (key a) with less | ge
          · exact Or.inl less
          · exact Or.inr ⟨by omega, asymm a d (first d hd)⟩

/-- The level of a window's ring. -/
def ringLevel (l : Light) (px py : Int) (rw : Nat) : Nat :=
  let ring := (windowCells px py rw).filter (onRing px py rw)
  (ring.map fun c => l.luminanceAt c.1 c.2).sum / ring.length

/-- What a cell of a window weighs. -/
def cellWeight (l : Light) (px py : Int) (rw threshold : Nat) (c : Int × Int) : Nat :=
  l.luminanceAt c.1 c.2 - ringLevel l px py rw - threshold

/-- The centre of weight of a window. -/
def weightedCentre (l : Light) (px py : Int) (rw threshold : Nat) : Position :=
  let cells := windowCells px py rw
  let weight := cellWeight l px py rw threshold
  let total := (cells.map weight).sum
  (roundDiv (cells.map fun c => (weight c : Int) * (32 * c.1 + 16)).sum total,
    roundDiv (cells.map fun c => (weight c : Int) * (32 * c.2 + 16)).sum total)

/-- The cell of a window that weighs most, the first of equals. -/
def heaviestCell (l : Light) (px py : Int) (rw threshold : Nat) : Option (Int × Int) :=
  (firstGreatest (cellWeight l px py rw threshold) (windowCells px py rw)).map Prod.fst

theorem firstGreatest_map {α β : Type} (f : α → β) (key : β → Nat) : ∀ l : List α,
    firstGreatest key (l.map f) = (firstGreatest (fun a => key (f a)) l).map fun x => (f x.1, x.2)
  | [] => rfl
  | a :: rest => by
    have ih := firstGreatest_map f key rest
    simp only [List.map_cons, firstGreatest, ih]
    cases firstGreatest (fun a => key (f a)) rest with
    | none => rfl
    | some x =>
      obtain ⟨b, k⟩ := x
      simp only [Option.map_some]
      split <;> rfl

theorem centroid_of_dark {l : Light} {px py : Int} {rw threshold : Nat}
    (dark : ((windowCells px py rw).map (cellWeight l px py rw threshold)).sum = 0) :
    l.centroid px py rw threshold = none := by
  unfold Light.centroid
  exact if_pos (by rw [List.map_map]; exact dark)

theorem centroid_of_bright {l : Light} {px py : Int} {rw threshold : Nat}
    (bright : ((windowCells px py rw).map (cellWeight l px py rw threshold)).sum ≠ 0) {c : Int × Int}
    (heaviest : heaviestCell l px py rw threshold = some c) : l.centroid px py rw threshold =
      if onRing px py rw c then none else some (weightedCentre l px py rw threshold) := by
  obtain ⟨⟨c, k⟩, chosen, rfl⟩ := Option.map_eq_some_iff.mp heaviest
  have paired : firstGreatest (fun cw : (Int × Int) × Nat => cw.2)
      ((windowCells px py rw).map fun c => (c, cellWeight l px py rw threshold c)) =
        some ((c, cellWeight l px py rw threshold c), k) := by
    rw [firstGreatest_map]
    exact congrArg _ chosen
  unfold Light.centroid
  refine (if_neg (by rw [List.map_map]; exact bright)).trans ?_
  simp only [cellWeight, ringLevel] at paired
  rw [paired]
  simp only [List.map_map, weightedCentre]
  rfl

theorem exists_heaviestCell {l : Light} {px py : Int} {rw threshold : Nat}
    (bright : ((windowCells px py rw).map (cellWeight l px py rw threshold)).sum ≠ 0) :
    ∃ c, heaviestCell l px py rw threshold = some c := by
  cases chosen : firstGreatest (cellWeight l px py rw threshold) (windowCells px py rw) with
  | none => simp [firstGreatest_eq_none chosen] at bright
  | some x => exact ⟨x.1, by rw [heaviestCell, chosen]; rfl⟩

/-- A centroid is found where something weighs and the heaviest cell, the first of equals, is not on the ring. -/
theorem centroid_eq_some_iff (l : Light) (px py : Int) (rw threshold : Nat) (q : Position) :
    l.centroid px py rw threshold = some q ↔
      0 < ((windowCells px py rw).map (cellWeight l px py rw threshold)).sum ∧
      (∃ c ∈ windowCells px py rw, onRing px py rw c = false ∧
        ∀ d ∈ windowCells px py rw, cellWeight l px py rw threshold d < cellWeight l px py rw threshold c ∨
          (cellWeight l px py rw threshold d = cellWeight l px py rw threshold c ∧ ¬rowMajor d c)) ∧
      q = weightedCentre l px py rw threshold := by
  by_cases dark : ((windowCells px py rw).map (cellWeight l px py rw threshold)).sum = 0
  · simp [centroid_of_dark dark, dark]
  obtain ⟨c, heaviest⟩ := exists_heaviestCell dark
  obtain ⟨⟨c, k⟩, chosen, rfl⟩ := Option.map_eq_some_iff.mp heaviest
  obtain ⟨mem, greatest⟩ := firstGreatest_some (fun _ _ => rowMajor_asymm) (pairwise_windowCells px py rw) chosen
  rw [centroid_of_bright dark heaviest]
  constructor
  · intro found
    split at found
    · nomatch found
    · rename_i notRing
      exact ⟨Nat.pos_of_ne_zero dark, ⟨c, mem, Bool.eq_false_iff.mpr notRing, greatest⟩, (Option.some.inj found).symm⟩
  · rintro ⟨-, ⟨d, hd, notRing, best⟩, rfl⟩
    have same : c = d := by
      have hcd := best c mem
      have hdc := greatest d hd
      exact rowMajor_total (hcd.resolve_left (by omega)).2 (hdc.resolve_left (by omega)).2
    rw [same, notRing]
    rfl

/-! ## Lists in order -/

/-- An element put behind every one whose key is at least as great. -/
def insertByKey {α : Type} (key : α → Nat) (c : α) : List α → List α
  | [] => [c]
  | d :: ds => if key d < key c then c :: d :: ds else d :: insertByKey key c ds

/-- The order of a list ordered by key, greatest first, with equal keys in the order `before`. -/
def byKey {α : Type} (key : α → Nat) (before : α → α → Prop) (a b : α) : Prop :=
  key b < key a ∨ (key a = key b ∧ before a b)

section

variable {α : Type} {key : α → Nat} {before : α → α → Prop}

theorem perm_insertByKey (c : α) : ∀ l : List α, List.Perm (insertByKey key c l) (c :: l)
  | [] => List.Perm.refl _
  | d :: ds => by
    simp only [insertByKey]
    split
    · exact List.Perm.refl _
    · exact ((perm_insertByKey c ds).cons d).trans (List.Perm.swap c d ds)

theorem pairwise_insertByKey {c : α} : ∀ {l : List α}, l.Pairwise (byKey key before) → (∀ a ∈ l, before a c) →
    (insertByKey key c l).Pairwise (byKey key before)
  | [], _, _ => List.pairwise_singleton _ _
  | d :: ds, sorted, earlier => by
    obtain ⟨first, rest⟩ := List.pairwise_cons.mp sorted
    simp only [insertByKey]
    split
    · rename_i less
      refine List.pairwise_cons.mpr ⟨fun x hx => Or.inl ?_, sorted⟩
      rcases List.mem_cons.mp hx with rfl | hx
      · exact less
      · rcases first x hx with h | ⟨h, -⟩ <;> omega
    · rename_i notLess
      refine List.pairwise_cons.mpr ⟨fun x hx => ?_,
        pairwise_insertByKey rest fun a ha => earlier a (List.mem_cons_of_mem _ ha)⟩
      rcases List.mem_cons.mp ((perm_insertByKey c ds).mem_iff.mp hx) with rfl | hx
      · rcases Nat.lt_or_ge (key x) (key d) with h | h
        · exact Or.inl h
        · exact Or.inr ⟨by omega, earlier d List.mem_cons_self⟩
      · exact first x hx

theorem perm_foldl_insertByKey : ∀ (l sorted : List α),
    List.Perm (l.foldl (fun sorted c => insertByKey key c sorted) sorted) (sorted ++ l)
  | [], sorted => by simp
  | c :: cs, sorted => (perm_foldl_insertByKey cs _).trans
      (((perm_insertByKey c sorted).append_right cs).trans List.perm_middle.symm)

theorem pairwise_foldl_insertByKey : ∀ {l sorted : List α}, sorted.Pairwise (byKey key before) → l.Pairwise before →
    (∀ a ∈ sorted, ∀ c ∈ l, before a c) →
    (l.foldl (fun sorted c => insertByKey key c sorted) sorted).Pairwise (byKey key before)
  | [], _, ordered, _, _ => ordered
  | c :: cs, sorted, ordered, rest, earlier => by
    obtain ⟨first, rest⟩ := List.pairwise_cons.mp rest
    refine pairwise_foldl_insertByKey (sorted := insertByKey key c sorted)
      (pairwise_insertByKey ordered fun a ha => earlier a ha c List.mem_cons_self) rest fun a ha x hx => ?_
    rcases List.mem_cons.mp ((perm_insertByKey c sorted).mem_iff.mp ha) with rfl | ha
    · exact first x hx
    · exact earlier a ha x (List.mem_cons_of_mem _ hx)

end

theorem insertByFlux_eq (c : Candidate) (l : List Candidate) : insertByFlux c l = insertByKey Candidate.flux c l := by
  induction l with
  | nil => rfl
  | cons d ds ih => rw [insertByFlux, insertByKey, ih]

/-! ## The candidates (R80) -/

/-- The candidates of a light in row-major order. -/
def candidatesFound (l : Light) (threshold : Nat) : List Candidate :=
  (List.range (l.height / 2)).flatMap fun j =>
    (List.range (l.width / 2)).filterMap fun i =>
      if l.isCandidate threshold i j then some ⟨i, j, l.flux i j⟩ else none

theorem candidates_eq (l : Light) (threshold : Nat) : l.candidates threshold =
    (candidatesFound l threshold).foldl (fun sorted c => insertByKey Candidate.flux c sorted) [] := by
  simp only [← insertByFlux_eq]
  rfl

/-- The row-major order of candidates. -/
def candidateBefore (a b : Candidate) : Prop := a.j < b.j ∨ (a.j = b.j ∧ a.i < b.i)

theorem mem_candidatesFound {l : Light} {threshold : Nat} {c : Candidate} : c ∈ candidatesFound l threshold ↔
    c.i < l.width / 2 ∧ c.j < l.height / 2 ∧ l.isCandidate threshold c.i c.j = true ∧ c.flux = l.flux c.i c.j := by
  simp only [candidatesFound, List.mem_flatMap, List.mem_range, List.mem_filterMap, Option.ite_none_right_eq_some,
    Option.some.injEq]
  constructor
  · rintro ⟨j, hj, i, hi, peak, rfl⟩
    exact ⟨hi, hj, peak, rfl⟩
  · rintro ⟨hi, hj, peak, flux⟩
    exact ⟨c.j, hj, c.i, hi, peak, by rw [← flux]⟩

theorem pairwise_candidatesFound (l : Light) (threshold : Nat) :
    (candidatesFound l threshold).Pairwise candidateBefore := by
  rw [candidatesFound, List.pairwise_flatMap]
  refine ⟨fun j _ => List.pairwise_filterMap.mpr (List.pairwise_lt_range.imp fun h a ha b hb => ?_),
    List.pairwise_lt_range.imp fun h a ha b hb => ?_⟩
  · obtain ⟨-, ha⟩ := Option.ite_none_right_eq_some.mp ha
    obtain ⟨-, hb⟩ := Option.ite_none_right_eq_some.mp hb
    obtain rfl := Option.some.inj ha
    obtain rfl := Option.some.inj hb
    exact Or.inr ⟨rfl, h⟩
  · obtain ⟨_, _, ha⟩ := List.mem_filterMap.mp ha
    obtain ⟨_, _, hb⟩ := List.mem_filterMap.mp hb
    obtain ⟨-, ha⟩ := Option.ite_none_right_eq_some.mp ha
    obtain ⟨-, hb⟩ := Option.ite_none_right_eq_some.mp hb
    obtain rfl := Option.some.inj ha
    obtain rfl := Option.some.inj hb
    exact Or.inl h

theorem mem_candidates {l : Light} {threshold : Nat} {c : Candidate} : c ∈ l.candidates threshold ↔
    c.i < l.width / 2 ∧ c.j < l.height / 2 ∧ l.isCandidate threshold c.i c.j = true ∧ c.flux = l.flux c.i c.j := by
  rw [candidates_eq, (perm_foldl_insertByKey _ _).mem_iff, List.nil_append, mem_candidatesFound]

theorem pairwise_candidates (l : Light) (threshold : Nat) :
    (l.candidates threshold).Pairwise (byKey Candidate.flux candidateBefore) := by
  rw [candidates_eq]
  exact pairwise_foldl_insertByKey List.Pairwise.nil (pairwise_candidatesFound l threshold) (by simp)

theorem luminanceAt_of_inFrame {l : Light} {i j : Int}
    (h : 0 ≤ i ∧ i < (l.width / 2 : Nat) ∧ 0 ≤ j ∧ j < (l.height / 2 : Nat)) :
    l.luminanceAt i j = l.luminance i.toNat j.toNat := if_pos ((inFrame_iff l i j).mpr h)

theorem luminanceAt_of_not_inFrame {l : Light} {i j : Int}
    (h : ¬(0 ≤ i ∧ i < (l.width / 2 : Nat) ∧ 0 ≤ j ∧ j < (l.height / 2 : Nat))) : l.luminanceAt i j = 0 :=
  if_neg fun inside => h ((inFrame_iff l i j).mp inside)

/-- A neighbour inside the frame meets its comparison. -/
theorem neighbour_iff (inside less : Prop) [Decidable less] {b : Bool} (h : b = true ↔ inside) :
    (!b || decide less) = true ↔ (inside → less) := by
  rw [← h]
  simp only [Bool.or_eq_true, Bool.not_eq_true', decide_eq_true_eq]
  cases b <;> simp

/-- A candidate cell stands out from its neighbours. -/
theorem isCandidate_iff {l : Light} {threshold i j : Nat} (hi : i < l.width / 2) (hj : j < l.height / 2) :
    l.isCandidate threshold i j = true ↔ (cellTile l.width l.tiles i j).tileClass = .sky ∧
      threshold ≤ l.luminanceAt i j ∧
      (∀ n ∈ [((-1 : Int), (-1 : Int)), (0, -1), (1, -1), (-1, 0)], l.inFrame (i + n.1) (j + n.2) = true →
        l.luminanceAt (i + n.1) (j + n.2) < l.luminanceAt i j) ∧
      ∀ n ∈ [((1 : Int), (0 : Int)), (-1, 1), (0, 1), (1, 1)], l.inFrame (i + n.1) (j + n.2) = true →
        l.luminanceAt (i + n.1) (j + n.2) ≤ l.luminanceAt i j := by
  have here : l.luminanceAt i j = l.luminance i j := luminanceAt_of_inFrame (by omega)
  simp only [Light.isCandidate, Bool.and_eq_true, beq_iff_eq, decide_eq_true_eq, neighbour_iff _ _ Iff.rfl,
    List.forall_mem_cons, List.not_mem_nil, IsEmpty.forall_iff, implies_true, and_true, and_assoc, here]

theorem flux_eq (l : Light) (i j : Nat) : l.flux i j = ([(-2 : Int), -1, 0, 1, 2].flatMap fun dj =>
    [(-2 : Int), -1, 0, 1, 2].map fun di => l.luminanceAt (i + di) (j + dj)).sum := by
  have span : intRange (-2) 2 = [-2, -1, 0, 1, 2] := by decide
  rw [Light.flux, span]

/-! ## Taking stars (R81) -/

theorem clearOfEdges_iff (l : Light) (rw : Nat) (c : Candidate) : l.clearOfEdges rw c = true ↔
    (16 * (rw + 2) : Int) ≤ 32 * c.i + 16 ∧ (16 * (rw + 2) : Int) ≤ 16 * l.width - (32 * c.i + 16) ∧
      (16 * (rw + 2) : Int) ≤ 32 * c.j + 16 ∧ (16 * (rw + 2) : Int) ≤ 16 * l.height - (32 * c.j + 16) := by
  simp only [Light.clearOfEdges, Bool.and_eq_true, decide_eq_true_eq]
  omega

theorem separated_iff (r p : Position) : separated r p = true ↔ 512 ≤ max |r.1 - p.1| |r.2 - p.2| := by
  simp only [separated, decide_eq_true_eq, Int.abs_eq_natAbs]
  omega

/-- A candidate that stands at an edge, has no centroid or lies too near a held position is passed. -/
theorem judgeCandidate_passed {l : Light} {rw threshold : Nat} {refOf : Position → Position} {held : List Position}
    {c : Candidate} (h : ¬l.clearOfEdges rw c = true ∨ l.centroid (2 * c.i + 1) (2 * c.j + 1) rw threshold = none ∨
      ∃ pos p, l.centroid (2 * c.i + 1) (2 * c.j + 1) rw threshold = some pos ∧ p ∈ held ∧
        ¬separated (refOf pos) p = true) : l.judgeCandidate rw threshold refOf held c = none := by
  unfold Light.judgeCandidate
  split
  · rfl
  rename_i clear
  rcases h with edge | dark | ⟨pos, p, found, hp, near⟩
  · exact absurd (by simpa using clear) edge
  · rw [dark]
  · rw [found]
    exact if_neg fun far => near (List.all_eq_true.mp far p hp)

theorem judgeCandidate_taken {l : Light} {rw threshold : Nat} {refOf : Position → Position} {held : List Position}
    {c : Candidate} {pos : Position} (clear : l.clearOfEdges rw c = true)
    (found : l.centroid (2 * c.i + 1) (2 * c.j + 1) rw threshold = some pos)
    (far : ∀ p ∈ held, separated (refOf pos) p = true) :
    l.judgeCandidate rw threshold refOf held c = some ⟨refOf pos, c.flux, pos⟩ := by
  unfold Light.judgeCandidate
  rw [clear, found]
  exact if_pos (List.all_eq_true.mpr far)

theorem takeStars_passed {l : Light} {rw threshold : Nat} {refOf : Position → Position} {entry : Option Position}
    {entries : List (Option Position)} {held : List Position} {c : Candidate} {cs : List Candidate}
    (h : l.judgeCandidate rw threshold refOf held c = none) :
    l.takeStars rw threshold refOf (entry :: entries) held (c :: cs) =
      l.takeStars rw threshold refOf (entry :: entries) held cs := by
  rw [Light.takeStars, h]

theorem takeStars_taken {l : Light} {rw threshold : Nat} {refOf : Position → Position} {entry : Option Position}
    {entries : List (Option Position)} {held : List Position} {c : Candidate} {cs : List Candidate} {t : TakenStar}
    (h : l.judgeCandidate rw threshold refOf held c = some t) :
    l.takeStars rw threshold refOf (entry :: entries) held (c :: cs) =
      t :: l.takeStars rw threshold refOf entries (heldAfter held entry t.ref) cs := by
  rw [Light.takeStars, h]

theorem takeStars_length_le (l : Light) (rw threshold : Nat) (refOf : Position → Position) :
    ∀ (entries : List (Option Position)) (held : List Position) (cs : List Candidate),
      (l.takeStars rw threshold refOf entries held cs).length ≤ entries.length
  | [], _, [] => le_rfl
  | [], _, _ :: _ => le_rfl
  | _ :: _, _, [] => Nat.zero_le _
  | entry :: entries, held, c :: cs => by
    cases judged : l.judgeCandidate rw threshold refOf held c with
    | none =>
      rw [takeStars_passed judged]
      exact takeStars_length_le l rw threshold refOf (entry :: entries) held cs
    | some t =>
      rw [takeStars_taken judged]
      exact Nat.succ_le_succ (takeStars_length_le l rw threshold refOf entries _ cs)

/-! ## The Star Measurer (R84, R85) -/

theorem searchable_iff (l : Light) (rw : Nat) (p : Position) : l.searchable rw p = true ↔
    (0 ≤ p.1 / 16 - rw ∧ p.1 / 16 + rw ≤ (l.width : Int) - 1 ∧ 0 ≤ p.2 / 16 - rw ∧
      p.2 / 16 + rw ≤ (l.height : Int) - 1) ∧
    ¬(regionRead TileEntry.default l.tiles
      (tileIndex l.width (p.1 / 16 / 64).toNat (p.2 / 16 / 64).toNat)).tileClass = .ground := by
  simp [Light.searchable, Light.windowInFrame, and_assoc]

section

variable {l : Light} {pose : Transform} {rw threshold sub : Nat} {x : Star}

theorem findStar_none (h : x.state = .vacant ∨ l.searchable rw (l.predict pose x) = false) :
    l.findStar pose rw threshold x = none :=
  if_neg fun searched => by
    rcases h with vacant | notSearched
    · simp [vacant] at searched
    · simp [notSearched] at searched

theorem findStar_searched (kept : x.state ≠ .vacant) (searched : l.searchable rw (l.predict pose x) = true) :
    l.findStar pose rw threshold x =
      (l.centroid ((l.predict pose x).1 / 16) ((l.predict pose x).2 / 16) rw threshold).map fun c =>
        (c, (c.1 - (l.predict pose x).1, c.2 - (l.predict pose x).2)) :=
  if_pos (by simp [kept, searched])

theorem measureStar_vacant (h : x.state = .vacant) : l.measureStar pose rw threshold sub x = x :=
  if_pos (by rw [h]; rfl)

theorem measureStar_hidden (kept : x.state ≠ .vacant) (hidden : l.searchable rw (l.predict pose x) = false) :
    l.measureStar pose rw threshold sub x = { x with state := .hidden } := by
  unfold Light.measureStar
  rw [if_neg (by simpa using kept), hidden]
  rfl

theorem measureStar_found (kept : x.state ≠ .vacant) (searched : l.searchable rw (l.predict pose x) = true)
    {c e : Position} (found : l.findStar pose rw threshold x = some (c, e)) :
    l.measureStar pose rw threshold sub x =
      { x with state := .locked, missCount := 0, lastPos := some c, lastResidual := some e, lastFound := sub } := by
  unfold Light.measureStar
  rw [if_neg (by simpa using kept), searched, found]
  rfl

theorem measureStar_missed (kept : x.state ≠ .vacant) (searched : l.searchable rw (l.predict pose x) = true)
    (missed : l.findStar pose rw threshold x = none) : l.measureStar pose rw threshold sub x = { x with
      state := if x.missCount < 2 then .missing else .lost, missCount := min 255 (x.missCount + 1) } := by
  have saturated : saturate 255 (x.missCount + 1) = min 255 (x.missCount + 1) :=
    saturate_eq_min _ _
  have early : (x.missCount + 1 ≤ 2) = (x.missCount < 2) := propext (by omega)
  unfold Light.measureStar
  rw [if_neg (by simpa using kept), searched, missed]
  simp only [saturated, early]
  rfl

end

/-! ## The trimmed mean (R86) -/

theorem perm_insertAscending (x : Int) : ∀ l : List Int, List.Perm (insertAscending x l) (x :: l)
  | [] => List.Perm.refl _
  | y :: ys => by
    simp only [insertAscending]
    split
    · exact List.Perm.refl _
    · exact ((perm_insertAscending x ys).cons y).trans (List.Perm.swap x y ys)

theorem pairwise_insertAscending (x : Int) : ∀ {l : List Int}, l.Pairwise (· ≤ ·) →
    (insertAscending x l).Pairwise (· ≤ ·)
  | [], _ => List.pairwise_singleton _ _
  | y :: ys, sorted => by
    obtain ⟨first, rest⟩ := List.pairwise_cons.mp sorted
    simp only [insertAscending]
    split
    · rename_i le
      refine List.pairwise_cons.mpr ⟨fun z hz => ?_, sorted⟩
      rcases List.mem_cons.mp hz with rfl | hz
      · exact le
      · exact le.trans (first z hz)
    · rename_i gt
      refine List.pairwise_cons.mpr ⟨fun z hz => ?_, pairwise_insertAscending x rest⟩
      rcases List.mem_cons.mp ((perm_insertAscending x ys).mem_iff.mp hz) with rfl | hz
      · omega
      · exact first z hz

theorem ascending_perm_pairwise (values : List Int) :
    List.Perm (ascending values) values ∧ (ascending values).Pairwise (· ≤ ·) := by
  induction values with
  | nil => exact ⟨List.Perm.refl _, List.Pairwise.nil⟩
  | cons x xs ih => exact ⟨(perm_insertAscending x _).trans (ih.1.cons x), pairwise_insertAscending x ih.2⟩

theorem ascending_eq {values sorted : List Int} (perm : List.Perm values sorted)
    (ordered : sorted.Pairwise (· ≤ ·)) : ascending values = sorted := by
  obtain ⟨perm', ordered'⟩ := ascending_perm_pairwise values
  exact (perm'.trans perm).eq_of_pairwise (fun _ _ _ _ => le_antisymm) ordered' ordered

theorem trimmedMean_eq {values sorted : List Int} (perm : List.Perm values sorted)
    (ordered : sorted.Pairwise (· ≤ ·)) : trimmedMean values =
      roundDiv ((sorted.drop (values.length / 4)).take (values.length - 2 * (values.length / 4))).sum
        ((values.length - 2 * (values.length / 4) : Nat) : Int) := by
  have kept : ((sorted.drop (values.length / 4)).take (values.length - 2 * (values.length / 4))).length =
      values.length - 2 * (values.length / 4) := by
    rw [List.length_take, List.length_drop, ← perm.length_eq]
    omega
  rw [trimmedMean, ascending_eq perm ordered, kept]

end Sys2Proof.Proofs.StarImages
end

section
/-! PROOFS. The completion of a measurement: its rows, the re-acquisition of the Guide Star Table and the predicted
pose. -/

namespace Sys2Proof.Proofs.Measurements

open Sys2Proof.Machine Sys2Proof.Safety Sys2Proof.Proofs.SequencerSteps Sys2Proof.Proofs.RetirementsAndFrames
  Sys2Proof.Proofs.StarImages

-- The declarations are elaborated one after another, which keeps the check of the whole text within its memory.
set_option Elab.async false

/-! ## The entries of a re-acquisition run (R83) -/

theorem insertByMisses_eq (stars : Vector Star 24) (i : Fin 24) (l : List (Fin 24)) :
    insertByMisses stars i l = insertByKey (fun j => stars[j].missCount) i l := by
  induction l with
  | nil => rfl
  | cons j js ih => rw [insertByMisses, insertByKey, ih]

/-- The LOST entries by miss count, the greatest first. -/
def lostEntries (stars : Vector Star 24) : List (Fin 24) :=
  ((List.finRange 24).filter fun i => stars[i].state == .lost).foldl
    (fun sorted i => insertByKey (fun j => stars[j].missCount) i sorted) []

theorem freeEntries_eq (stars : Vector Star 24) : freeEntries stars =
    ((List.finRange 24).filter fun i => stars[i].state == .vacant) ++ lostEntries stars := by
  simp only [lostEntries, ← insertByMisses_eq]
  rfl

theorem mem_lostEntries {stars : Vector Star 24} {i : Fin 24} : i ∈ lostEntries stars ↔ stars[i].state = .lost := by
  rw [lostEntries, (perm_foldl_insertByKey _ _).mem_iff]
  simp only [List.nil_append, List.mem_filter, List.mem_finRange, true_and, beq_iff_eq]

theorem mem_freeEntries {stars : Vector Star 24} {i : Fin 24} :
    i ∈ freeEntries stars ↔ stars[i].state = .vacant ∨ stars[i].state = .lost := by
  rw [freeEntries_eq, List.mem_append, mem_lostEntries]
  simp only [List.mem_filter, List.mem_finRange, true_and, beq_iff_eq]

/-- The order in which a run fills entries: the VACANT ones by index, then the LOST ones by miss count and index. -/
def filledBefore (stars : Vector Star 24) (i j : Fin 24) : Prop :=
  (stars[i].state = .vacant ∧ stars[j].state = .vacant ∧ i < j) ∨
  (stars[i].state = .vacant ∧ stars[j].state = .lost) ∨
  (stars[i].state = .lost ∧ stars[j].state = .lost ∧
    (stars[j].missCount < stars[i].missCount ∨ (stars[i].missCount = stars[j].missCount ∧ i < j)))

theorem filledBefore_asymm {stars : Vector Star 24} {i j : Fin 24} (h : filledBefore stars i j) :
    ¬filledBefore stars j i := by
  rintro (⟨a, b, c⟩ | ⟨a, b⟩ | ⟨a, b, c⟩) <;> rcases h with ⟨d, e, f⟩ | ⟨d, e⟩ | ⟨d, e, f⟩
  · exact lt_asymm c f
  · exact absurd (a.symm.trans e) (by decide)
  · exact absurd (a.symm.trans e) (by decide)
  · exact absurd (b.symm.trans d) (by decide)
  · exact absurd (b.symm.trans d) (by decide)
  · exact absurd (a.symm.trans e) (by decide)
  · exact absurd (a.symm.trans e) (by decide)
  · exact absurd (b.symm.trans d) (by decide)
  · omega

theorem pairwise_freeEntries (stars : Vector Star 24) : (freeEntries stars).Pairwise (filledBefore stars) := by
  have ordered : (List.finRange 24).Pairwise (· < ·) := List.pairwise_lt_finRange 24
  have lost : (lostEntries stars).Pairwise (byKey (fun j => stars[j].missCount) (· < ·)) :=
    pairwise_foldl_insertByKey List.Pairwise.nil (ordered.filter _) (by simp)
  rw [freeEntries_eq, List.pairwise_append]
  refine ⟨?_, lost.imp_of_mem fun hi hj h => Or.inr (Or.inr ⟨mem_lostEntries.mp hi, mem_lostEntries.mp hj, h⟩),
    fun i hi j hj => Or.inr (Or.inl ⟨?_, mem_lostEntries.mp hj⟩)⟩
  · refine (ordered.filter _).imp_of_mem fun hi hj h => Or.inl ⟨?_, ?_, h⟩
    · exact beq_iff_eq.mp (List.mem_filter.mp hi).2
    · exact beq_iff_eq.mp (List.mem_filter.mp hj).2
  · exact beq_iff_eq.mp (List.mem_filter.mp hi).2

theorem nodup_freeEntries (stars : Vector Star 24) : (freeEntries stars).Nodup :=
  (pairwise_freeEntries stars).imp fun h same => by
    subst same
    exact filledBefore_asymm h h

/-- In a list that an asymmetric relation orders, places follow the relation. -/
theorem idxOf_lt_idxOf_iff {α : Type} [DecidableEq α] {before : α → α → Prop} (asymm : ∀ a b, before a b → ¬before b a)
    {l : List α} (ordered : l.Pairwise before) {a b : α} (ha : a ∈ l) (hb : b ∈ l) :
    l.idxOf a < l.idxOf b ↔ before a b := by
  have forward : ∀ x ∈ l, ∀ y ∈ l, l.idxOf x < l.idxOf y → before x y := fun x hx y hy h => by
    have := List.pairwise_iff_getElem.mp ordered _ _ (List.idxOf_lt_length_iff.mpr hx)
      (List.idxOf_lt_length_iff.mpr hy) h
    simpa only [List.getElem_idxOf] using this
  refine ⟨forward a ha b hb, fun h => ?_⟩
  rcases Nat.lt_trichotomy (l.idxOf a) (l.idxOf b) with lt | eq | gt
  · exact lt
  · obtain rfl := (List.idxOf_inj ha).mp eq
    exact absurd h (asymm a a h)
  · exact absurd (forward b hb a ha gt) (asymm a b h)

/-! ## The writing of taken stars (R82, R83) -/

theorem placeStars_other {sub : Nat} {residual : Option (Int × Int)} {i : Fin 24} : ∀ {entries : List (Fin 24)}
    {taken : List TakenStar} {stars : Vector Star 24}, i ∉ entries.take taken.length →
      (placeStars sub residual entries taken stars)[i] = stars[i]
  | [], _, _, _ => by simp [placeStars]
  | _ :: _, [], _, _ => by simp [placeStars]
  | e :: es, t :: ts, stars, h => by
    simp only [List.length_cons, List.take_succ_cons, List.mem_cons, not_or] at h
    obtain ⟨other, rest⟩ := h
    rw [placeStars, placeStars_other rest]
    exact Vector.getElem_set_ne _ _ fun same => other (Fin.ext same.symm)

theorem placeStars_taken {sub : Nat} {residual : Option (Int × Int)} {i : Fin 24} {x : TakenStar} :
    ∀ {entries : List (Fin 24)} {taken : List TakenStar} {stars : Vector Star 24} {k : Nat}, entries.Nodup →
      entries[k]? = some i → taken[k]? = some x →
      (placeStars sub residual entries taken stars)[i] = x.entry sub residual
  | [], _, _, _, _, h, _ => nomatch h
  | _ :: _, [], _, _, _, _, h => nomatch h
  | e :: es, t :: ts, stars, k, nodup, hi, hx => by
    obtain ⟨fresh, nodup⟩ := List.nodup_cons.mp nodup
    cases k with
    | zero =>
      simp only [List.getElem?_cons_zero, Option.some.injEq] at hi hx
      subst hi hx
      rw [placeStars, placeStars_other fun mem => fresh (List.mem_of_mem_take mem)]
      exact Vector.getElem_set_self _
    | succ k => exact placeStars_taken (entries := es) (taken := ts) nodup hi hx

/-- The table that sets the reference: the stars taken stand in entry 0 and onward (R82). -/
theorem placeStars_reference (sub : Nat) (residual : Option (Int × Int)) (taken : List TakenStar) (stars : Vector Star 24)
    (k : Fin 24) :
    (∀ x, taken[k.val]? = some x →
      (placeStars sub residual (List.finRange 24) taken stars)[k] = x.entry sub residual) ∧
    (taken[k.val]? = none → (placeStars sub residual (List.finRange 24) taken stars)[k] = stars[k]) := by
  refine ⟨fun x hx => placeStars_taken (k := k.val) (List.nodup_finRange 24) (by simp) hx, fun past => ?_⟩
  have short : taken.length ≤ k.val := List.getElem?_eq_none_iff.mp past
  refine placeStars_other fun mem => ?_
  obtain ⟨n, hn, at_n⟩ := List.mem_iff_getElem.mp mem
  simp only [List.length_take, List.length_finRange] at hn
  simp only [List.getElem_take, List.getElem_finRange] at at_n
  have := congrArg Fin.val at_n
  simp at this
  omega

theorem lockedCount_eq (stars : Vector Star 24) : lockedCount stars =
    ((List.finRange 24).filter fun k => stars[k].state == .locked).length := by
  have toList : stars.toList = (List.finRange 24).map fun k => stars[k] := by
    apply List.ext_getElem <;> simp
  rw [lockedCount, toList, List.filter_map, List.length_map]
  rfl

theorem length_filter_val_lt : ∀ n : Fin 25, ((List.finRange 24).filter fun k => decide (k.val < n.val)).length = n.val := by
  decide

/-- The stars taken into an empty table are its LOCKED ones. -/
theorem lockedCount_placeStars {sub : Nat} {residual : Option (Int × Int)} {taken : List TakenStar} {stars : Vector Star 24}
    (fits : taken.length ≤ 24) (empty : ∀ k : Fin 24, stars[k].state = .vacant) :
    lockedCount (placeStars sub residual (List.finRange 24) taken stars) = taken.length := by
  have locked : ∀ k : Fin 24, ((placeStars sub residual (List.finRange 24) taken stars)[k].state == .locked) =
      decide (k.val < taken.length) := fun k => by
    obtain ⟨written, kept⟩ := placeStars_reference sub residual taken stars k
    by_cases h : k.val < taken.length
    · rw [written _ (List.getElem?_eq_getElem h)]
      simp [h, TakenStar.entry]
    · rw [kept (List.getElem?_eq_none (by omega)), empty k]
      simp [h]
  rw [lockedCount_eq, List.filter_congr fun k _ => locked k]
  exact length_filter_val_lt ⟨taken.length, by omega⟩

/-! ## The predicted pose (R74) -/

theorem clampTranslation_eq (t : Int) : clampTranslation t = max (-8388608) (min t 8388607) := by
  unfold clampTranslation clampInt
  split_ifs <;> omega

theorem extrapolate_of_pos {num den : Nat} (h : den ≠ 0) (b diff : Int) :
    extrapolate b diff num den = roundDiv (b * den + diff * num) den := if_neg h

theorem elapsed_ne_zero {a b : Clock} (h : a ≠ b) : elapsed a b ≠ 0 := fun zero => by
  have : b - a = 0 := BitVec.eq_of_toNat_eq zero
  exact h (by bv_omega)

/-! ## The parts of a completion (R74, R75, R100) -/

/-- Two changes of a descriptor are one. -/
theorem onDesc_onDesc (s : State) (i : Fin 6) (f g : Descriptor → Descriptor) :
    (s.onDesc i f).onDesc i g = s.onDesc i fun d => g (f d) := by
  have own : (s.ring.desc.set i (f s.ring.desc[i]))[i] = f s.ring.desc[i] := Vector.getElem_set_self _
  simp only [State.onDesc, State.onRing, own, Vector.set_set]

/-- The Dark Library once a light is calibrated from a slot: the slot has been used last (R92). -/
def darksUsed (slot : Option (Fin 4)) (sub : Nat) (d : DarkLibrary) : DarkLibrary :=
  match slot with
  | none => d
  | some k => { d with
      slots := d.slots.set k { d.slots[k] with lastUsed := sub }
      useOrder := d.useOrder.erase k ++ [k] }

theorem applyCalibration_eq (i : Fin 6) (c : Option (Calibration × Option (Fin 4))) (s : State) :
    applyCalibration i c s = { s.onDesc i fun d => { d with calibration := (c.map Prod.fst).or d.calibration } with
      darks := darksUsed (c.bind Prod.snd) s.ring.desc[i].sub s.darks } := by
  rcases c with _ | ⟨kind, _ | k⟩
  · have kept : s.ring.desc.set i s.ring.desc[i] = s.ring.desc := Vector.set_getElem_self _
    simp only [applyCalibration, State.onDesc, State.onRing, Option.map_none, Option.none_or, kept, Option.bind_none,
      darksUsed]
  · rfl
  · rfl

/-- The pose a descriptor holds once its pose is resolved. -/
def poseResolved (p : Pose) (t : Transform) : Pose :=
  match p with
  | .reported _ _ _ _ => p
  | _ => .predicted t.phi t.tx t.ty

/-- The pose history once a descriptor's pose is resolved. -/
def historyResolved (d : Descriptor) (h : List PoseEntry) : List PoseEntry :=
  match d.pose with
  | .reported phi tx ty q => List.take 2 (⟨d.sub, d.midTime, phi, tx, ty, q⟩ :: h)
  | _ => h

/-- A pose that is predicted is late. -/
def poseLate : Pose → Bool
  | .reported _ _ _ _ => false
  | _ => true

/-- A link on which an event is raised under a condition. -/
def raisedIf (b : Bool) (e : Event) (l : LinkState) : LinkState := if b then l.raised e else l

theorem raisedIf_keeps {b : Bool} {e : Event} {l : LinkState} {n : Nat} (h : l.pendingSet.getLsbD n = true) :
    (raisedIf b e l).pendingSet.getLsbD n = true := by
  unfold raisedIf
  split
  · exact l.raised_keeps e h
  · exact h

theorem raisedIf_pending {b : Bool} {e : Event} {l : LinkState} (h : b = true) :
    (raisedIf b e l).pendingSet.getLsbD (eventNumber e) = true := by
  rw [raisedIf, if_pos h]
  exact l.raised_pending e

theorem raised_other {e : Event} {l : LinkState} {n : Nat} (other : (eventBit e).getLsbD n = false) :
    (l.raised e).pendingSet.getLsbD n = l.pendingSet.getLsbD n := by
  simp [LinkState.raised, LinkState.judged, other]

theorem applyPose_eq (i : Fin 6) (s : State) : applyPose i s =
    { s.onDesc i fun d => { d with pose := poseResolved d.pose (s.resolvedPose i) } with
      guidance := { s.guidance with history := historyResolved s.ring.desc[i] s.guidance.history }
      pLink := raisedIf (poseLate s.ring.desc[i].pose) .poseLate s.pLink
      sLink := raisedIf (poseLate s.ring.desc[i].pose) .poseLate s.sLink } := by
  have desc : ∀ p : Pose, s.ring.desc[i].pose = p →
      s.ring.desc.set i { s.ring.desc[i] with pose := p } = s.ring.desc := fun p h => by
    subst h
    exact Vector.set_getElem_self _
  cases h : s.ring.desc[i].pose with
  | reported phi tx ty q =>
    simp only [applyPose, h, State.onDesc, State.onRing, poseResolved, desc _ h, historyResolved, poseLate, raisedIf,
      State.onGuidance, historyWith]
    rfl
  | absent =>
    simp only [applyPose, h, State.onDesc, State.onRing, poseResolved, historyResolved, poseLate, raisedIf, raise_eq]
    rfl
  | predicted phi tx ty =>
    simp only [applyPose, h, State.onDesc, State.onRing, poseResolved, historyResolved, poseLate, raisedIf, raise_eq]
    rfl

theorem judgeTable_eq (before : Nat) (setting : Bool) (s : State) : judgeTable before setting s =
    let few := (decide (8 ≤ before) || setting) && decide (lockedCount s.guidance.stars < 8)
    { s with
      guidance := { s.guidance with reacquisitionDue := decide (lockedCount s.guidance.stars < 8) }
      pLink := raisedIf few .starCountLow s.pLink
      sLink := raisedIf few .starCountLow s.sLink } := by
  simp only [judgeTable, raisedIf]
  split
  · rw [raise_eq]
    rfl
  · rfl

theorem exec_measurementComplete {s : State} {i : Fin 6} {aligned : Bool} {c : Option (Calibration × Option (Fin 4))}
    (powered : s.powered = true) (job : s.engine.job = .descriptor i) (noStop : s.engine.stop = .none)
    (work : s.engine.work = .measuring aligned c) :
    exec .measurementComplete s = .next (completeMeasurement i aligned c s) := by
  change execMeasurementComplete s = _
  rw [execMeasurementComplete, job, noStop, work]
  exact congrArg _ (if_pos powered)

/-! ## The referencing attempt (R82) -/

/-- What setting the reference raises on a link. -/
def referenceRaised (begins few : Bool) (l : LinkState) : LinkState :=
  raisedIf few .starCountLow (((raisedIf begins .sessionState l).raised .driftReady).raised .referenceSet)

theorem setReference_eq (i : Fin 6) (taken : List TakenStar) (s : State) :
    let begins := s.session.state = .referencing
    let table := placeStars s.ring.desc[i].sub (some (0, 0)) (List.finRange 24) taken s.guidance.stars
    setReference i taken s = { s.onDesc i fun d => { d with
        state := .merging, residual := some (0, 0), matched := taken.length } with
      session := { s.session with
        referenceSet := true, state := if begins then .integrating else s.session.state
        pauseCause := if begins then none else s.session.pauseCause }
      engine := { s.engine with work := .merging .merged false (some Transform.identity), tilesDone := 0 }
      guidance := { s.guidance with
        stars := table, reference := some ⟨s.ring.desc[i].sub, s.ring.desc[i].midTime⟩
        drift := some ⟨s.ring.desc[i].sub, some (0, 0), taken.length, .reference, .applied⟩
        reacquisitionDue := decide (lockedCount table < 8) }
      pLink := referenceRaised (decide begins) (decide (lockedCount table < 8)) s.pLink
      sLink := referenceRaised (decide begins) (decide (lockedCount table < 8)) s.sLink } := by
  generalize stars : placeStars s.ring.desc[i].sub (some (0, 0)) (List.finRange 24) taken s.guidance.stars = table
  have own : ∀ d, (s.ring.desc.set i d)[i] = d := fun d => Vector.getElem_set_self _
  dsimp only
  rw [setReference]
  simp only [judgeTable_eq, writeDrift, beginMerge, raise_eq, State.onGuidance, State.onSession, State.onEngine,
    State.onDesc, State.onRing, stars, Bool.or_true, Bool.true_and]
  by_cases begins : s.session.state = .referencing
  · simp only [begins, beq_self_eq_true, if_true, enterSession_eq, raise_eq, own, Vector.set_set]
    rfl
  · have stays : (s.session.state == .referencing) = false := by simpa using begins
    simp only [begins, stays, Bool.false_eq_true, if_false, own, Vector.set_set]
    rfl

/-- The reference set by a calibrated light. -/
theorem setReference_applyCalibration (i : Fin 6) (c : Option (Calibration × Option (Fin 4))) (taken : List TakenStar)
    (s : State) :
    let d := s.ring.desc[i]
    let begins := s.session.state = .referencing
    let table := placeStars d.sub (some (0, 0)) (List.finRange 24) taken s.guidance.stars
    setReference i taken (applyCalibration i c s) = { s with
      session := { s.session with
        referenceSet := true, state := if begins then .integrating else s.session.state
        pauseCause := if begins then none else s.session.pauseCause }
      engine := { s.engine with work := .merging .merged false (some Transform.identity), tilesDone := 0 }
      ring := { s.ring with desc := s.ring.desc.set i { d with
        state := .merging, residual := some (0, 0), matched := taken.length
        calibration := (c.map Prod.fst).or d.calibration } }
      guidance := { s.guidance with
        stars := table, reference := some ⟨d.sub, d.midTime⟩
        drift := some ⟨d.sub, some (0, 0), taken.length, .reference, .applied⟩
        reacquisitionDue := decide (lockedCount table < 8) }
      darks := darksUsed (c.bind Prod.snd) d.sub s.darks
      pLink := referenceRaised (decide begins) (decide (lockedCount table < 8)) s.pLink
      sLink := referenceRaised (decide begins) (decide (lockedCount table < 8)) s.sLink } := by
  have own : ∀ d, (s.ring.desc.set i d)[i] = d := fun d => Vector.getElem_set_self _
  rw [setReference_eq, applyCalibration_eq]
  simp only [State.onDesc, State.onRing, own, Vector.set_set]
  rfl

/-- A calibrated light whose attempt fails goes on to its merge. -/
theorem referencingFailed_applyCalibration (i : Fin 6) (c : Option (Calibration × Option (Fin 4))) (s : State) :
    referencingFailed i (applyCalibration i c s) = { s with
      engine := { s.engine with work := .merging (.groundOnly .referenceFailed) false none, tilesDone := 0 }
      ring := { s.ring with desc := s.ring.desc.set i { s.ring.desc[i] with
        state := .merging, calibration := (c.map Prod.fst).or s.ring.desc[i].calibration } }
      darks := darksUsed (c.bind Prod.snd) s.ring.desc[i].sub s.darks } := by
  have own : ∀ d, (s.ring.desc.set i d)[i] = d := fun d => Vector.getElem_set_self _
  rw [applyCalibration_eq]
  simp only [referencingFailed, beginMerge, State.onDesc, State.onRing, State.onEngine, own, Vector.set_set]

theorem completeReferencing_eq (i : Fin 6) (c : Option (Calibration × Option (Fin 4))) (s : State) :
    let plan := s.ring.desc[i].snapshot
    let l := s.lightOf i (c.bind Prod.snd)
    let taken := l.takeStars plan.windowRadius plan.starThreshold id referencingEntries
      (heldPositions s.guidance.stars) (l.candidates plan.starThreshold)
    completeMeasurement i false c s = if taken.length < 6 then referencingFailed i (applyCalibration i c s)
      else setReference i taken (applyCalibration i c s) := rfl

theorem referenceRaised_pending (begins few : Prop) [Decidable begins] [Decidable few] (l : LinkState) :
    let r := referenceRaised (decide begins) (decide few) l
    r.pendingSet.getLsbD 8 = true ∧ r.pendingSet.getLsbD 9 = true ∧ (begins → r.pendingSet.getLsbD 0 = true) ∧
      (few → r.pendingSet.getLsbD 10 = true) := by
  refine ⟨raisedIf_keeps (LinkState.raised_pending .referenceSet _),
    raisedIf_keeps (LinkState.raised_keeps _ _ (LinkState.raised_pending .driftReady _)), fun h => ?_,
    fun h => raisedIf_pending (e := .starCountLow) (decide_eq_true h)⟩
  exact raisedIf_keeps (LinkState.raised_keeps _ _ (LinkState.raised_keeps _ _
    (raisedIf_pending (e := .sessionState) (decide_eq_true h))))

theorem referenceRaised_starCountLow {begins few : Bool} (many : few = false) (l : LinkState) :
    (referenceRaised begins few l).pendingSet.getLsbD 10 = l.pendingSet.getLsbD 10 := by
  subst many
  have opened : (raisedIf begins .sessionState l).pendingSet.getLsbD 10 = l.pendingSet.getLsbD 10 := by
    unfold raisedIf
    split
    · exact raised_other (by decide)
    · rfl
  change (((raisedIf begins .sessionState l).raised .driftReady).raised .referenceSet).pendingSet.getLsbD 10 = _
  rw [raised_other (by decide), raised_other (by decide), opened]

/-! ## The steady light (R75, R83 to R87) -/

/-- The residual of a light and its result (R86). -/
theorem formResidual_eq (driftLimit : Nat) (found : List (Int × Int)) :
    let ex := trimmedMean (found.map Prod.fst)
    let ey := trimmedMean (found.map Prod.snd)
    formResidual driftLimit found = (if found.length < 3 then none else some (ex, ey),
      if found.length < 3 then .tooFew
      else if driftLimit < ex.natAbs ∨ driftLimit < ey.natAbs then .exceeded else .applied) := by
  by_cases few : found.length < 3
  · simp only [formResidual, few, if_true]
  · simp only [formResidual, few, if_false]

/-- The outcome that a residual decides, with the transform of the merge (R75, R115). -/
theorem decidedOutcome_eq (pose : Transform) (ex ey : Int) (few exceeded : Prop) [Decidable few] [Decidable exceeded] :
    decidedOutcome pose (if few then none else some (ex, ey),
        if few then .tooFew else if exceeded then .exceeded else .applied) =
      (if few then .groundOnly .noStars else if exceeded then .groundOnly .drift else .merged,
        if few ∨ exceeded then none else some ⟨pose.phi, pose.tx + ex, pose.ty + ey⟩) := by
  by_cases few <;> by_cases exceeded <;> simp [*, decidedOutcome]

/-- What a measurement's results change in the part (R75 steps 3 to 6). -/
def resultsApplied (i : Fin 6) (c : Option (Calibration × Option (Fin 4))) (table : Vector Star 24) (drift : DriftRecord)
    (s : State) : State :=
  let t := (applyCalibration i c (applyPose i s)).onGuidance fun g => { g with stars := table }
  let t := writeDrift drift (t.onDesc i fun d => { d with residual := drift.residual, matched := drift.matched })
  if table = s.guidance.stars then t else judgeTable (lockedCount s.guidance.stars) false t

/-- What a measurement's results raise on a link. -/
def resultsRaised (late few : Bool) (l : LinkState) : LinkState :=
  raisedIf few .starCountLow ((raisedIf late .poseLate l).raised .driftReady)

theorem beginMerge_resultsApplied (i : Fin 6) (c : Option (Calibration × Option (Fin 4))) (table : Vector Star 24)
    (drift : DriftRecord) (o : SubOutcome) (sky : Option Transform) (s : State) :
    let d := s.ring.desc[i]
    let few := decide (8 ≤ lockedCount s.guidance.stars) && decide (lockedCount table < 8)
    beginMerge i o true sky (resultsApplied i c table drift s) = { s with
      engine := { s.engine with work := .merging o true sky, tilesDone := 0 }
      ring := { s.ring with desc := s.ring.desc.set i { d with
        state := .merging, residual := drift.residual, matched := drift.matched
        calibration := (c.map Prod.fst).or d.calibration, pose := poseResolved d.pose (s.resolvedPose i) } }
      guidance := { s.guidance with
        stars := table, drift := some drift, history := historyResolved d s.guidance.history
        reacquisitionDue := if table = s.guidance.stars then s.guidance.reacquisitionDue
          else decide (lockedCount table < 8) }
      darks := darksUsed (c.bind Prod.snd) d.sub s.darks
      pLink := resultsRaised (poseLate d.pose) few s.pLink
      sLink := resultsRaised (poseLate d.pose) few s.sLink } := by
  have own : ∀ d, (s.ring.desc.set i d)[i] = d := fun d => Vector.getElem_set_self _
  rw [resultsApplied, applyPose_eq, applyCalibration_eq]
  by_cases same : table = s.guidance.stars
  · have unjudged : ∀ n : Nat, (decide (8 ≤ n) && decide (n < 8)) = false := fun n => by
      simp
    simp only [same, if_true, beginMerge, writeDrift, raise_eq, State.onGuidance, State.onDesc, State.onRing,
      State.onEngine, own, Vector.set_set]
    simp only [← same, unjudged]
    rfl
  · simp only [same, if_false, judgeTable_eq, beginMerge, writeDrift, raise_eq, State.onGuidance, State.onDesc,
      State.onRing, State.onEngine, own, Vector.set_set, Bool.or_false]
    rfl

theorem resultsRaised_pending (late few : Bool) (l : LinkState) :
    (late = true → (resultsRaised late few l).pendingSet.getLsbD 11 = true) ∧
    (resultsRaised late few l).pendingSet.getLsbD 9 = true ∧
    (few = true → (resultsRaised late few l).pendingSet.getLsbD 10 = true) :=
  ⟨fun h => raisedIf_keeps (LinkState.raised_keeps _ _ (raisedIf_pending (e := .poseLate) h)),
    raisedIf_keeps (LinkState.raised_pending .driftReady _), fun h => raisedIf_pending (e := .starCountLow) h⟩

/-- The table a measurement leaves: re-acquired where a run is due and the merge has a transform (R83). -/
def tableAfter (due : Bool) (sky : Option Transform) (run : Transform → Vector Star 24) (measured : Vector Star 24) :
    Vector Star 24 :=
  match due, sky with
  | true, some t => run t
  | _, _ => measured

theorem tableAfter_eq (due : Bool) (merge : Transform) (few exceeded : Prop) [Decidable few] [Decidable exceeded]
    (run : Transform → Vector Star 24) (measured : Vector Star 24) :
    tableAfter due (if few ∨ exceeded then none else some merge) run measured =
      if due = true ∧ ¬few ∧ ¬exceeded then run merge else measured := by
  by_cases hf : few <;> by_cases he : exceeded <;> cases due <;> simp [hf, he, tableAfter]

/-- Where a measurement's pose comes from. -/
def poseSource : Pose → PoseSource
  | .reported _ _ _ _ => .reported
  | _ => .predicted

/-- A steady light's completion from the residuals of its stars, the table measured and the run that would re-acquire it
(R75 steps 3 to 6). -/
def steadyCompletion (i : Fin 6) (c : Option (Calibration × Option (Fin 4))) (s : State) (found : List (Int × Int))
    (run : Transform → Vector Star 24) (measured : Vector Star 24) : State :=
  let d := s.ring.desc[i]
  let r := formResidual d.snapshot.driftLimit found
  let decided := decidedOutcome (s.resolvedPose i) r
  let table := tableAfter s.guidance.reacquisitionDue decided.2 run measured
  beginMerge i decided.1 true decided.2
    (resultsApplied i c table ⟨d.sub, r.1, found.length, poseSource d.pose, r.2⟩ s)

theorem completeSteady_eq (i : Fin 6) (c : Option (Calibration × Option (Fin 4))) (s : State) :
    let d := s.ring.desc[i]
    let plan := d.snapshot
    let l := s.lightOf i (c.bind Prod.snd)
    let pose := s.resolvedPose i
    let measured := s.guidance.stars.map (l.measureStar pose plan.windowRadius plan.starThreshold d.sub)
    completeSteady i c s = steadyCompletion i c s
      (s.guidance.stars.toList.filterMap fun x =>
        (l.findStar pose plan.windowRadius plan.starThreshold x).map Prod.snd)
      (fun merge => reacquire l plan merge d.sub measured) measured := rfl

theorem steadyCompletion_eq (i : Fin 6) (c : Option (Calibration × Option (Fin 4))) (s : State) (found : List (Int × Int))
    (run : Transform → Vector Star 24) (measured : Vector Star 24) :
    let d := s.ring.desc[i]
    let pose := s.resolvedPose i
    let few := found.length < 3
    let ex := trimmedMean (found.map Prod.fst)
    let ey := trimmedMean (found.map Prod.snd)
    let exceeded := d.snapshot.driftLimit < ex.natAbs ∨ d.snapshot.driftLimit < ey.natAbs
    let merge : Transform := ⟨pose.phi, pose.tx + ex, pose.ty + ey⟩
    let table := if s.guidance.reacquisitionDue = true ∧ ¬few ∧ ¬exceeded then run merge else measured
    steadyCompletion i c s found run measured = beginMerge i
      (if few then .groundOnly .noStars else if exceeded then .groundOnly .drift else .merged) true
      (if few ∨ exceeded then none else some merge)
      (resultsApplied i c table ⟨d.sub, if few then none else some (ex, ey), found.length, poseSource d.pose,
        if few then .tooFew else if exceeded then .exceeded else .applied⟩ s) := by
  simp only [steadyCompletion, formResidual_eq, decidedOutcome_eq, tableAfter_eq]

/-! ## The rows -/

/-- A light that its reported quality rejects is retired with its pose in the history (R10, R74, R75). -/
theorem completeAligned_rejected {s : State} {i : Fin 6} (c : Option (Calibration × Option (Fin 4))) {phi : Nat}
    {tx ty : Int} {q : Quality} (pose : s.ring.desc[i].pose = .reported phi tx ty q) (unsteady : q ≠ .steady) :
    completeAligned i c s = jobEnded (retire i (.rejected (if q = .shaken then .shake else .moved)) true
      { s with guidance := { s.guidance with
        history := List.take 2 (⟨s.ring.desc[i].sub, s.ring.desc[i].midTime, phi, tx, ty, q⟩ :: s.guidance.history) } }) := by
  have applied : applyPose i s = { s with guidance := { s.guidance with
      history := List.take 2 (⟨s.ring.desc[i].sub, s.ring.desc[i].midTime, phi, tx, ty, q⟩ :: s.guidance.history) } } := by
    simp only [applyPose, pose]
    rfl
  rw [completeAligned, applied, pose]
  cases q with
  | steady => exact absurd rfl unsteady
  | shaken => rfl
  | moved => rfl

theorem completeAligned_steady {s : State} {i : Fin 6} (c : Option (Calibration × Option (Fin 4)))
    (steady : s.ring.desc[i].pose.quality = .steady) : completeAligned i c s = completeSteady i c s := by
  rw [completeAligned, steady]

theorem poseLate_of_not_reported {p : Pose} (h : ∀ phi tx ty q, p ≠ .reported phi tx ty q) : poseLate p = true := by
  cases p with
  | reported phi tx ty q => exact absurd rfl (h phi tx ty q)
  | absent => rfl
  | predicted => rfl

/-- A shaken light's retirement calls for no pause in a session that integrates. -/
theorem jobEnded_retire_shaken {s : State} (integrating : s.session.state = .integrating) (i : Fin 6) :
    let t := jobEnded (retire i (.rejected .shake) true s)
    t.engine.job = .none ∧ t.ring.desc[i].state = .retired ∧ t.ring.desc[i].outcome = some (.rejected .shake) ∧
    t.session.movedCount = 0 ∧ t.session.totals.rejectedShake = s.session.totals.rejectedShake + 1 ∧
    t.guidance = s.guidance ∧ t.darks = s.darks ∧ t.dram = s.dram ∧ t.seq = s.seq := by
  have record : retire i (.rejected .shake) true s = retireRecord i (.rejected .shake) true s :=
    (retirementsKeepTheAccount.2.1 i (.rejected .shake) true s (by rw [integrating]; decide)).2.2.2
      (by simp) (by simp) (by simp)
  obtain ⟨own, -⟩ := retireRecord_desc i (.rejected .shake) true s
  dsimp only
  rw [record]
  refine ⟨rfl, ?_, ?_, rfl, rfl, rfl, rfl, rfl, rfl⟩
  · exact congrArg Descriptor.state own
  · exact congrArg Descriptor.outcome own

theorem takeStars_rows (l : Light) (rw threshold : Nat) (refOf : Position → Position) (entry : Option Position)
    (entries : List (Option Position)) (held : List Position) (c : Candidate) (cs : List Candidate) :
    let x : Int := 32 * c.i + 16
    let y : Int := 32 * c.j + 16
    let room : Int := 16 * (rw + 2)
    let edge := room ≤ x ∧ room ≤ 16 * l.width - x ∧ room ≤ y ∧ room ≤ 16 * l.height - y
    let apart := fun r p : Position => 512 ≤ max |r.1 - p.1| |r.2 - p.2|
    let found := l.centroid (2 * c.i + 1) (2 * c.j + 1) rw threshold
    (¬edge ∨ found = none ∨ (∃ pos p, found = some pos ∧ p ∈ held ∧ ¬apart (refOf pos) p) →
      l.takeStars rw threshold refOf (entry :: entries) held (c :: cs) =
        l.takeStars rw threshold refOf (entry :: entries) held cs) ∧
    ∀ pos, edge → found = some pos → (∀ p ∈ held, apart (refOf pos) p) →
      l.takeStars rw threshold refOf (entry :: entries) held (c :: cs) = ⟨refOf pos, c.flux, pos⟩ ::
        l.takeStars rw threshold refOf entries (heldAfter held entry (refOf pos)) cs := by
  simp only [← clearOfEdges_iff, ← separated_iff]
  exact ⟨fun h => takeStars_passed (judgeCandidate_passed h),
    fun pos clear found far => takeStars_taken (judgeCandidate_taken clear found far)⟩

/-- A run writes the stars it takes into the entries in their order, and no other entry (R81, R83). -/
theorem reacquire_rows (l : Light) (plan : Plan) (m : Transform) (sub : Nat) (stars : Vector Star 24) :
    let entries := freeEntries stars
    let taken := l.takeStars plan.windowRadius plan.starThreshold (m.inverse l.width l.height)
      (entries.map fun i => stars[i].position) (heldPositions stars) (l.candidates plan.starThreshold)
    let after := reacquire l plan m sub stars
    taken.length ≤ entries.length ∧
    (∀ (k : Nat) (i : Fin 24) (x : TakenStar), entries[k]? = some i → taken[k]? = some x →
      after[i] = ⟨.locked, x.ref.1, x.ref.2, x.flux, some x.pos, none, 0, sub⟩) ∧
    ∀ i : Fin 24, i ∉ entries.take taken.length → after[i] = stars[i] := by
  refine ⟨?_, fun k i x => placeStars_taken (nodup_freeEntries stars), fun i => placeStars_other⟩
  have fits := takeStars_length_le l plan.windowRadius plan.starThreshold (m.inverse l.width l.height)
    ((freeEntries stars).map fun i => stars[i].position) (heldPositions stars) (l.candidates plan.starThreshold)
  rwa [List.length_map] at fits

theorem measureStar_rows (l : Light) (pose : Transform) (rw threshold sub : Nat) (x : Star) :
    let p := l.predict pose x
    (x.state = .vacant → l.measureStar pose rw threshold sub x = x ∧ l.findStar pose rw threshold x = none) ∧
    (x.state ≠ .vacant → ¬l.searchable rw p = true →
      l.measureStar pose rw threshold sub x = { x with state := .hidden } ∧ l.findStar pose rw threshold x = none) ∧
    (x.state ≠ .vacant → l.searchable rw p = true →
      (∀ q, l.centroid (p.1 / 16) (p.2 / 16) rw threshold = some q →
        l.findStar pose rw threshold x = some (q, (q.1 - p.1, q.2 - p.2)) ∧
        l.measureStar pose rw threshold sub x = { x with
          state := .locked, missCount := 0, lastPos := some q, lastResidual := some (q.1 - p.1, q.2 - p.2)
          lastFound := sub }) ∧
      (l.centroid (p.1 / 16) (p.2 / 16) rw threshold = none →
        l.findStar pose rw threshold x = none ∧
        l.measureStar pose rw threshold sub x = { x with
          state := if x.missCount < 2 then .missing else .lost, missCount := min 255 (x.missCount + 1) })) := by
  refine ⟨fun vacant => ⟨measureStar_vacant vacant, findStar_none (Or.inl vacant)⟩, fun kept hidden => ?_,
    fun kept searched => ⟨fun q found => ?_, fun missed => ?_⟩⟩
  · have hidden := Bool.eq_false_iff.mpr hidden
    exact ⟨measureStar_hidden kept hidden, findStar_none (Or.inr hidden)⟩
  · have located : l.findStar pose rw threshold x = some (q, _) :=
      (findStar_searched kept searched).trans (congrArg _ found)
    exact ⟨located, measureStar_found kept searched located⟩
  · have lost : l.findStar pose rw threshold x = none := (findStar_searched kept searched).trans (congrArg _ missed)
    exact ⟨lost, measureStar_missed kept searched lost⟩

theorem predictPose_rows (m : Clock) (a b : PoseEntry) (older : List PoseEntry) (interval : a.midTime ≠ b.midTime) :
    let num : Int := (m - b.midTime).toNat
    let den : Int := (b.midTime - a.midTime).toNat
    let line := fun (v diff : Int) => roundDiv (v * den + diff * num) den
    predictPose (b :: a :: older) m =
      ⟨(line b.phi ((BitVec.ofInt 16 ((b.phi : Int) - a.phi)).toInt) % 65536).toNat,
        max (-8388608) (min (line b.tx (b.tx - a.tx)) 8388607),
        max (-8388608) (min (line b.ty (b.ty - a.ty)) 8388607)⟩ := by
  dsimp only
  rw [predictPose]
  simp only [extrapolate_of_pos (elapsed_ne_zero interval), clampTranslation_eq]
  rfl

/-- Settles O54. -/
theorem measurementsApplyTheirResultsTogether : Obligations.MeasurementsApplyTheirResultsTogether := by
  refine ⟨fun s i c powered job noStop => ⟨fun phi tx ty work pose integrating => ?_,
      fun phi tx ty q work pose unsteady => ?_, fun work => ?_, fun work => ?_, fun work steady => ?_⟩,
    fun l pose rw threshold sub x => ?_, fun l i j => ⟨luminanceAt_of_inFrame, luminanceAt_of_not_inFrame⟩,
    fun l px py rw threshold q => ⟨fun c => ?_, pairwise_windowCells px py rw, fun c => onRing_iff,
      centroid_eq_some_iff l px py rw threshold q⟩,
    fun l threshold => ⟨fun c => ?_, pairwise_candidates l threshold⟩,
    fun l rw threshold refOf entry entries held c cs => ⟨rfl, rfl,
      takeStars_rows l rw threshold refOf entry entries held c cs⟩,
    ⟨rfl, fun x => ?_, fun stars => rfl⟩, fun values sorted => trimmedMean_eq,
    fun stars i j => ⟨mem_freeEntries, nodup_freeEntries stars,
      idxOf_lt_idxOf_iff (fun _ _ => filledBefore_asymm) (pairwise_freeEntries stars)⟩,
    reacquire_rows, fun m a b older => ⟨rfl, rfl, predictPose_rows m a b older⟩⟩
  · obtain ⟨free, state, outcome, moved, total, guidance, darks, dram, seq⟩ := jobEnded_retire_shaken (s := { s with
      guidance := { s.guidance with
        history := List.take 2 (⟨s.ring.desc[i].sub, s.ring.desc[i].midTime, phi, tx, ty, .shaken⟩ ::
          s.guidance.history) } }) integrating i
    refine ⟨_, (exec_measurementComplete powered job noStop work).trans
      (congrArg _ (completeAligned_rejected c pose (by decide))), free, state, outcome, moved, total,
      congrArg Guidance.history guidance, ?_, darks, dram, seq⟩
    exact guidance.trans (congrArg (fun h => { s.guidance with history := h }) (congrArg Guidance.history guidance).symm)
  · exact (exec_measurementComplete powered job noStop work).trans
      (congrArg _ (completeAligned_rejected c pose unsteady))
  · intro d plan l taken begins six
    have closed := setReference_applyCalibration i c taken s
    refine ⟨_, (exec_measurementComplete powered job noStop work).trans
      (congrArg _ (((completeReferencing_eq i c s).trans (if_neg (Nat.not_lt.mpr six))).trans closed)), rfl, rfl, rfl, rfl, fun k => ?_, fun empty => ?_,
      rfl, rfl, rfl, rfl, rfl, rfl, rfl, fun link side => ?_, fun many => ?_⟩
    · obtain ⟨written, kept⟩ := placeStars_reference d.sub (some (0, 0)) taken s.guidance.stars k
      cases at_k : taken[k.val]? with
      | none => exact kept at_k
      | some x => exact written x at_k
    · exact lockedCount_placeStars ((takeStars_length_le l _ _ _ _ _ _).trans (by simp [referencingEntries])) empty
    · rcases side with rfl | rfl
      · exact referenceRaised_pending _ _ s.pLink
      · exact referenceRaised_pending _ _ s.sLink
    · have notFew := decide_eq_false (Nat.not_lt.mpr many)
      exact ⟨referenceRaised_starCountLow notFew s.pLink, referenceRaised_starCountLow notFew s.sLink⟩
  · intro d l taken few
    exact (exec_measurementComplete powered job noStop work).trans
      (congrArg _ (((completeReferencing_eq i c s).trans (if_pos few)).trans
        (referencingFailed_applyCalibration i c s)))
  · intro d plan l pose stars found measured few ex ey exceeded merge residual result outcome table
    have closed := (completeSteady_eq i c s).trans ((steadyCompletion_eq i c s found _ measured).trans
      (beginMerge_resultsApplied i c table ⟨d.sub, residual, found.length, poseSource d.pose, result⟩ outcome
        (if few ∨ exceeded then none else some merge) s))
    have raisedP := resultsRaised_pending (poseLate d.pose)
      (decide (8 ≤ lockedCount stars) && decide (lockedCount table < 8)) s.pLink
    have raisedS := resultsRaised_pending (poseLate d.pose)
      (decide (8 ≤ lockedCount stars) && decide (lockedCount table < 8)) s.sLink
    refine ⟨_, (exec_measurementComplete powered job noStop work).trans
      (congrArg _ ((completeAligned_steady c steady).trans closed)), rfl, rfl, rfl, rfl, fun predicted => ?_,
      raisedP.2.1, raisedS.2.1, fun many few => ?_, rfl, rfl, rfl, rfl, rfl, rfl, rfl⟩
    · have late := poseLate_of_not_reported predicted
      exact ⟨raisedP.1 late, raisedS.1 late⟩
    · have low := (Bool.and_eq_true _ _).mpr ⟨decide_eq_true many, decide_eq_true few⟩
      exact ⟨raisedP.2.2 low, raisedS.2.2 low⟩
  · obtain ⟨vacant, hidden, searched⟩ := measureStar_rows l pose rw threshold sub x
    have searchable := searchable_iff l rw (l.predict pose x)
    exact ⟨vacant, fun kept outside => hidden kept fun h => outside (searchable.mp h),
      fun kept inside ground => searched kept (searchable.mpr ⟨inside, ground⟩)⟩
  · exact mem_windowCells.trans (and_congr (within_window_iff px c.1 rw) (within_window_iff py c.2 rw))
  · refine mem_candidates.trans (and_congr_right fun hi => and_congr_right fun hj => and_congr ?_ (by rw [flux_eq]))
    rw [isCandidate_iff hi hj]
    simp only [inFrame_iff]
    rfl
  · simp [Star.position]

end Sys2Proof.Proofs.Measurements
end
